-- ==== Sys2Proof/Word.lean ====
section
/-! DEFINITION. The two widths of the core (R9): the byte, which is what an address holds and what half of a
register pair holds, and the 16-bit word, which is what a pair, SP, PC and an address are. Addition and subtraction
on them are `BitVec`'s, that is `+8`, `-8`, `+16` and `-16` of R11. -/

namespace Sys2Proof

/-- An 8-bit value (R9). -/
abbrev Byte := BitVec 8

/-- A 16-bit value (R9). -/
abbrev Word := BitVec 16

end Sys2Proof
end

