-- ==== Sys2Proof/Machine/Bits.lean ====
section
/-! DEFINITION. Bit fields, byte order and extension (R11): the helpers every other file of the machine uses. -/

namespace Sys2Proof.Machine

/-- Bits 15:8, the high half of a pair (R22). -/
def hiByte (w : Word) : Byte := w.extractLsb' 8 8

/-- Bits 7:0, the low half of a pair (R22). -/
def loByte (w : Word) : Byte := w.extractLsb' 0 8

/-- The word with the given high and low byte: `(h << 8) | l` (R23, R53). -/
def mkWord (h l : Byte) : Word := h ++ l

/-- `sext_16` (R11). -/
def sext16 (e : Byte) : Word := e.signExtend 16

/-- The address `0xFF00 | a` of LDH and of the `(C)` forms (R92). -/
def highPage (a : Byte) : Word := 0xFF00 ||| a.zeroExtend 16

/-- A bit as a byte, 0 or 1. -/
def bitByte (b : Bool) : Byte := if b then 1 else 0

/-- Bit `i` of a byte, `v[i]` (R11). -/
def bitAt (v : Byte) (i : Nat) : Bool := v.getLsbD i

/-- The byte with only bit `i` set, `1 << i` (R274, R276). -/
def bitMask (i : Nat) : Byte := 1 <<< i

end Sys2Proof.Machine
end

