-- ==== Sys2Proof/Config.lean ====
section
/-! DEFINITION. What a build of the core fixes: the named parameters of R10, with their default values, and the
numbers of R9. The build is plain data. `Machine.State` carries it in one field that no step changes (R38, R108,
R110), so that every statement about a state holds for every build. -/

namespace Sys2Proof

/-- The two dispatch tables (R86): the primary one and the one behind the 0xCB byte. -/
inductive Table where
  | primary
  | cb
deriving DecidableEq, Repr

/-- A table entry, named by its table and its byte (R86). -/
abbrev Key := Table × Byte

/-- `POPULATED` (R10, R86): which table entries a build overwrites with handlers. `full` and `docNamed` are the two
profiles R86 defines; `only` lists the entries of any other build. What each holds is `Machine.populated`. -/
inductive Populated where
  | full
  | docNamed
  | only (entries : List Key)
deriving DecidableEq, Repr

/-- `UNKNOWN_POLICY` (R10, R106): what the unknown-opcode handler does after it has logged. -/
inductive UnknownPolicy where
  | strict
  | permissive
deriving DecidableEq, Repr

/-- `INCDEC_CARRY` (R10, R123): whether an 8-bit INC or DEC writes the carry flag. -/
inductive IncDecCarry where
  | preserve
  | compute
deriving DecidableEq, Repr

/-- The build parameters that a step reads (R10). -/
structure Build where
  populated       : Populated
  unknownPolicy   : UnknownPolicy
  /-- `UNKNOWN_PC_ADVANCE`, 0 or 1 (R10). -/
  unknownPcAdvance : Fin 2
  incDecCarry     : IncDecCarry
deriving DecidableEq, Repr

/-- The default build of R10. -/
def Build.default : Build :=
  { populated := .full, unknownPolicy := .strict, unknownPcAdvance := 0, incDecCarry := .preserve }

/-- `BOOT_BC`, `BOOT_DE` and `BOOT_HL` (R10): the pairs' values at creation. -/
structure BootRegs where
  bc : Word
  de : Word
  hl : Word
deriving DecidableEq, Repr

/-- The default values of the boot registers (R10, R37). -/
def BootRegs.default : BootRegs := { bc := 0x0013, de := 0x00D8, hl := 0x014D }

/-- `ROM_BOUNDARY` (R9): an address below it is read-only (R51). -/
def romBoundary : Nat := 0x8000

/-- `UNKNOWN_BOUND` (R9): how many consecutive unknown opcodes a permissive build lets pass (R107). -/
def unknownBound : Nat := 100

end Sys2Proof
end

