-- ==== Sys2Proof/Syntax.lean ====
section
/-! DEFINITION. The syntax of the core: the names of registers, flags and conditions, and `Instr`, one constructor per
row of `spec/opcode_table.json` (R95). A constructor carries the operand bytes that follow the opcode (R92): a byte `d`,
`e` or `a`, or a 16-bit word `d` or `a`. Register operands are part of the row, so they are part of the constructor's
name: `ldBAtHl` is `LD B,(HL)`, `At` standing for the parentheses of R94. -/

namespace Sys2Proof

/-- The 8-bit halves of the four register pairs (R22). -/
inductive Reg8 where
  | a | f | b | c | d | e | h | l
deriving DecidableEq, Repr

/-- The 16-bit registers an instruction can name (R21, R29). -/
inductive Reg16 where
  | af | bc | de | hl | sp
deriving DecidableEq, Repr

/-- The four flags of `F` (R26). -/
inductive Flag where
  | z | n | h | c
deriving DecidableEq, Repr

/-- The branch conditions (R84, R200). -/
inductive Cond where
  | nz | z | nc | c
deriving DecidableEq, Repr

/-- The operations of the 8-bit ALU block (R85). -/
inductive AluOp where
  | add | adc | sub | sbc | and | xor | or | cp
deriving DecidableEq, Repr

/-- The rotate and shift functions (R85, R250). -/
inductive ShiftOp where
  | rlc | rrc | rl | rr | sla | sra | swap | srl
deriving DecidableEq, Repr

/-- The instructions: the 256 cells of the primary map (R87) and the 256 cells of the secondary map (R88). Those that
carry operands come first (Lean's runtime numbers a constructor with fields in one byte), then the rest in the order of
their bytes. The five gap bytes (R90), the eleven illegal bytes (R89) and the cell of the 0xCB byte itself
(R288) have their constructors too. -/
inductive Instr where
  -- operand bytes follow (formats F2 and F3)
  | ldBcD16 (d : Word)
  | ldBD8 (d : Byte)
  | ldAtA16Sp (a : Word)
  | ldCD8 (d : Byte)
  | ldDeD16 (d : Word)
  | ldDD8 (d : Byte)
  | jrE8 (e : Byte)
  | ldED8 (d : Byte)
  | jrNzE8 (e : Byte)
  | ldHlD16 (d : Word)
  | ldHD8 (d : Byte)
  | jrZE8 (e : Byte)
  | ldLD8 (d : Byte)
  | jrNcE8 (e : Byte)
  | ldSpD16 (d : Word)
  | ldAtHlD8 (d : Byte)
  | jrCE8 (e : Byte)
  | ldAD8 (d : Byte)
  | jpNzA16 (a : Word)
  | jpA16 (a : Word)
  | callNzA16 (a : Word)
  | addAD8 (d : Byte)
  | jpZA16 (a : Word)
  | callZA16 (a : Word)
  | callA16 (a : Word)
  | adcAD8 (d : Byte)
  | jpNcA16 (a : Word)
  | callNcA16 (a : Word)
  | subD8 (d : Byte)
  | jpCA16 (a : Word)
  | callCA16 (a : Word)
  | sbcAD8 (d : Byte)
  | ldhAtA8A (a : Byte)
  | andD8 (d : Byte)
  | addSpE8 (e : Byte)
  | ldAtA16A (a : Word)
  | xorD8 (d : Byte)
  | ldhAAtA8 (a : Byte)
  | orD8 (d : Byte)
  | ldHlSpE8 (e : Byte)
  | ldAAtA16 (a : Word)
  | cpD8 (d : Byte)
  -- primary 0x
  | nop
  | ldAtBcA
  | incBc
  | incB
  | decB
  | rlca
  | addHlBc
  | ldAAtBc
  | decBc
  | incC
  | decC
  | rrca
  -- primary 1x
  | stop
  | ldAtDeA
  | incDe
  | incD
  | decD
  | rla
  | addHlDe
  | ldAAtDe
  | decDe
  | incE
  | decE
  | rra
  -- primary 2x
  | ldAtHlIncA
  | incHl
  | incH
  | decH
  | daa
  | addHlHl
  | ldAAtHlInc
  | decHl
  | incL
  | decL
  | cpl
  -- primary 3x
  | ldAtHlDecA
  | incSp
  | incAtHl
  | decAtHl
  | scf
  | addHlSp
  | ldAAtHlDec
  | decSp
  | incA
  | decA
  | ccf
  -- primary 4x
  | ldBB
  | ldBC
  | ldBD
  | ldBE
  | ldBH
  | ldBL
  | ldBAtHl
  | ldBA
  | ldCB
  | ldCC
  | ldCD
  | ldCE
  | ldCH
  | ldCL
  | ldCAtHl
  | ldCA
  -- primary 5x
  | ldDB
  | ldDC
  | ldDD
  | ldDE
  | ldDH
  | ldDL
  | ldDAtHl
  | ldDA
  | ldEB
  | ldEC
  | ldED
  | ldEE
  | ldEH
  | ldEL
  | ldEAtHl
  | ldEA
  -- primary 6x
  | ldHB
  | ldHC
  | ldHD
  | ldHE
  | ldHH
  | ldHL
  | ldHAtHl
  | ldHA
  | ldLB
  | ldLC
  | ldLD
  | ldLE
  | ldLH
  | ldLL
  | ldLAtHl
  | ldLA
  -- primary 7x
  | ldAtHlB
  | ldAtHlC
  | ldAtHlD
  | ldAtHlE
  | ldAtHlH
  | ldAtHlL
  | halt
  | ldAtHlA
  | ldAB
  | ldAC
  | ldAD
  | ldAE
  | ldAH
  | ldAL
  | ldAAtHl
  | ldAA
  -- primary 8x
  | addAB
  | addAC
  | addAD
  | addAE
  | addAH
  | addAL
  | addAAtHl
  | addAA
  | adcAB
  | adcAC
  | adcAD
  | adcAE
  | adcAH
  | adcAL
  | adcAAtHl
  | adcAA
  -- primary 9x
  | subB
  | subC
  | subD
  | subE
  | subH
  | subL
  | subAtHl
  | subA
  | sbcAB
  | sbcAC
  | sbcAD
  | sbcAE
  | sbcAH
  | sbcAL
  | sbcAAtHl
  | sbcAA
  -- primary Ax
  | andB
  | andC
  | andD
  | andE
  | andH
  | andL
  | andAtHl
  | andA
  | xorB
  | xorC
  | xorD
  | xorE
  | xorH
  | xorL
  | xorAtHl
  | xorA
  -- primary Bx
  | orB
  | orC
  | orD
  | orE
  | orH
  | orL
  | orAtHl
  | orA
  | cpB
  | cpC
  | cpD
  | cpE
  | cpH
  | cpL
  | cpAtHl
  | cpA
  -- primary Cx
  | retNz
  | popBc
  | pushBc
  | rst00
  | retZ
  | ret
  | prefixCb
  | rst08
  -- primary Dx
  | retNc
  | popDe
  | illegalD3
  | pushDe
  | rst10
  | retC
  | reti
  | illegalDB
  | illegalDD
  | rst18
  -- primary Ex
  | popHl
  | ldAtCA
  | illegalE3
  | illegalE4
  | pushHl
  | rst20
  | jpHl
  | illegalEB
  | illegalEC
  | illegalED
  | rst28
  -- primary Fx
  | popAf
  | ldAAtC
  | di
  | illegalF4
  | pushAf
  | rst30
  | ldSpHl
  | ei
  | illegalFC
  | illegalFD
  | rst38
  -- 0xCB 0x
  | rlcB
  | rlcC
  | rlcD
  | rlcE
  | rlcH
  | rlcL
  | rlcAtHl
  | rlcA
  | rrcB
  | rrcC
  | rrcD
  | rrcE
  | rrcH
  | rrcL
  | rrcAtHl
  | rrcA
  -- 0xCB 1x
  | rlB
  | rlC
  | rlD
  | rlE
  | rlH
  | rlL
  | rlAtHl
  | rlA
  | rrB
  | rrC
  | rrD
  | rrE
  | rrH
  | rrL
  | rrAtHl
  | rrA
  -- 0xCB 2x
  | slaB
  | slaC
  | slaD
  | slaE
  | slaH
  | slaL
  | slaAtHl
  | slaA
  | sraB
  | sraC
  | sraD
  | sraE
  | sraH
  | sraL
  | sraAtHl
  | sraA
  -- 0xCB 3x
  | swapB
  | swapC
  | swapD
  | swapE
  | swapH
  | swapL
  | swapAtHl
  | swapA
  | srlB
  | srlC
  | srlD
  | srlE
  | srlH
  | srlL
  | srlAtHl
  | srlA
  -- 0xCB 4x
  | bit0B
  | bit0C
  | bit0D
  | bit0E
  | bit0H
  | bit0L
  | bit0AtHl
  | bit0A
  | bit1B
  | bit1C
  | bit1D
  | bit1E
  | bit1H
  | bit1L
  | bit1AtHl
  | bit1A
  -- 0xCB 5x
  | bit2B
  | bit2C
  | bit2D
  | bit2E
  | bit2H
  | bit2L
  | bit2AtHl
  | bit2A
  | bit3B
  | bit3C
  | bit3D
  | bit3E
  | bit3H
  | bit3L
  | bit3AtHl
  | bit3A
  -- 0xCB 6x
  | bit4B
  | bit4C
  | bit4D
  | bit4E
  | bit4H
  | bit4L
  | bit4AtHl
  | bit4A
  | bit5B
  | bit5C
  | bit5D
  | bit5E
  | bit5H
  | bit5L
  | bit5AtHl
  | bit5A
  -- 0xCB 7x
  | bit6B
  | bit6C
  | bit6D
  | bit6E
  | bit6H
  | bit6L
  | bit6AtHl
  | bit6A
  | bit7B
  | bit7C
  | bit7D
  | bit7E
  | bit7H
  | bit7L
  | bit7AtHl
  | bit7A
  -- 0xCB 8x
  | res0B
  | res0C
  | res0D
  | res0E
  | res0H
  | res0L
  | res0AtHl
  | res0A
  | res1B
  | res1C
  | res1D
  | res1E
  | res1H
  | res1L
  | res1AtHl
  | res1A
  -- 0xCB 9x
  | res2B
  | res2C
  | res2D
  | res2E
  | res2H
  | res2L
  | res2AtHl
  | res2A
  | res3B
  | res3C
  | res3D
  | res3E
  | res3H
  | res3L
  | res3AtHl
  | res3A
  -- 0xCB Ax
  | res4B
  | res4C
  | res4D
  | res4E
  | res4H
  | res4L
  | res4AtHl
  | res4A
  | res5B
  | res5C
  | res5D
  | res5E
  | res5H
  | res5L
  | res5AtHl
  | res5A
  -- 0xCB Bx
  | res6B
  | res6C
  | res6D
  | res6E
  | res6H
  | res6L
  | res6AtHl
  | res6A
  | res7B
  | res7C
  | res7D
  | res7E
  | res7H
  | res7L
  | res7AtHl
  | res7A
  -- 0xCB Cx
  | set0B
  | set0C
  | set0D
  | set0E
  | set0H
  | set0L
  | set0AtHl
  | set0A
  | set1B
  | set1C
  | set1D
  | set1E
  | set1H
  | set1L
  | set1AtHl
  | set1A
  -- 0xCB Dx
  | set2B
  | set2C
  | set2D
  | set2E
  | set2H
  | set2L
  | set2AtHl
  | set2A
  | set3B
  | set3C
  | set3D
  | set3E
  | set3H
  | set3L
  | set3AtHl
  | set3A
  -- 0xCB Ex
  | set4B
  | set4C
  | set4D
  | set4E
  | set4H
  | set4L
  | set4AtHl
  | set4A
  | set5B
  | set5C
  | set5D
  | set5E
  | set5H
  | set5L
  | set5AtHl
  | set5A
  -- 0xCB Fx
  | set6B
  | set6C
  | set6D
  | set6E
  | set6H
  | set6L
  | set6AtHl
  | set6A
  | set7B
  | set7C
  | set7D
  | set7E
  | set7H
  | set7L
  | set7AtHl
  | set7A
deriving DecidableEq, Repr

end Sys2Proof
end

