-- ==== Sys2Proof/Machine/State.lean ====
section
/-! DEFINITION. The state of the core (R20), the reasons a run or a load ends (R302), the diagnostic events (R35), the
state right after reset (R37), and the two ways a step can stop. -/

namespace Sys2Proof.Machine

/-- The address space as data (R50): pairs of an address and its byte, addresses rising, no pair that holds the byte an
unlisted address reads as. -/
abbrev Memory := List Host.Cell

/-- What an unlisted address reads as: both regions are zero where the image does not reach (R61). -/
def Memory.unlisted : Byte := 0x00

/-- The canonical form from address `low` on. -/
def Memory.wfFrom : Nat → Memory → Bool
  | _, [] => true
  | low, (a, v) :: m =>
    decide (low ≤ a) && decide (a < 65536) && decide (v ≠ Memory.unlisted) && Memory.wfFrom (a + 1) m

/-- The canonical form of the memory: addresses strictly rising and inside the 64 KiB space, no entry that equals what
an unlisted address reads as. -/
def Memory.wf (m : Memory) : Bool := Memory.wfFrom 0 m

/-- Why a run ended in a fatal error: codes 1 and 2 of R302. -/
inductive FatalReason where
  /-- An unpopulated entry was fetched under the strict policy. `pc` is the address of the first byte fetched. -/
  | unknownOpcode (table : Table) (byte : Byte) (pc : Word)
  /-- The 101st unpopulated entry in a row was fetched under the permissive policy. -/
  | unknownBoundExceeded (table : Table) (byte : Byte) (pc : Word)
deriving DecidableEq, Repr

/-- Why no run started: code 3 of R302. -/
inductive LoadError where
  /-- The image is longer than the read-only region, or could not be obtained; its length where it is known (R332). -/
  | imageRefused (len : Option Nat)
deriving DecidableEq, Repr

/-- `status` (R34). -/
inductive Status where
  | running
  | fatal (reason : FatalReason)
  | quit
deriving DecidableEq, Repr

/-- An event of the diagnostic stream (R35). -/
inductive DiagEvent where
  /-- The unknown-opcode handler logged an entry (R106). -/
  | unknownOpcode (table : Table) (byte : Byte) (pc : Word)
  /-- The Memory Unit refused a write below the boundary, code 16 of R302 (R55). -/
  | romWrite (addr : Word)
deriving DecidableEq, Repr

/-- The state tuple of R20, and the build it runs under. -/
structure State where
  /-- Accumulator and flags; `F` is the low half (R22). -/
  af : Word
  bc : Word
  de : Word
  hl : Word
  sp : Word
  /-- Between steps, the address of the next opcode byte (R30). -/
  pc : Word
  /-- Machine cycles, unbounded (R31). -/
  cycles : Nat
  /-- The last opcode byte dispatch fetched (R32). -/
  opcode : Byte
  /-- Unknown opcodes since the last populated handler (R33). -/
  unknownCount : Nat
  mem : Memory
  status : Status
  /-- The diagnostic stream, oldest event first (R35). -/
  diag : List DiagEvent
  /-- The build's parameters. Not a component of R20: R38 and R108 make them parameters of the whole run, and no step
  changes them. -/
  build : Build
deriving DecidableEq, Repr

/-- Why a step stops without a next state. -/
inductive Fault where
  /-- Raised by `step` alone, on a state whose status is not `running`: such a state takes no further step (R34). Safe:
  the model stops where the spec says that nothing follows. -/
  | notRunning
deriving DecidableEq, Repr

/-- Why an instruction has no meaning. No meaning of this model answers with a refusal. -/
inductive Refusal where
  /-- Raised only by an arm of `exec` that has no meaning yet. Safe. There is no such arm. -/
  | notModelled (mnemonic : String)
deriving DecidableEq, Repr

/-- What a step or an instruction answers. -/
abbrev Result := Host.Outcome State Fault Refusal

/-- The machine right after creation (R37, R330), with the default build and boot registers (R10) and an empty image, so
that every byte of memory is zero (R61). -/
def State.reset : State :=
  { af := 0x01B0
    bc := BootRegs.default.bc
    de := BootRegs.default.de
    hl := BootRegs.default.hl
    sp := 0xFFFE
    pc := 0x0100
    cycles := 0
    opcode := 0x00
    unknownCount := 0
    mem := []
    status := .running
    diag := []
    build := Build.default }

end Sys2Proof.Machine
end

