-- ==== Sys2Proof/Machine/Ops.lean ====
section
/-! DEFINITION. The named operations every meaning is built from: the memory array, the Memory Unit, the register file,
the stack, the end of a handler, the populated-entry test, and the unknown-opcode handler, which is this core's one way
of taking an exception. -/

namespace Sys2Proof.Machine

/-! ## The memory array (R50) -/

/-- The byte at an address of the array. -/
def Memory.read : Memory → Nat → Byte
  | [], _ => Memory.unlisted
  | (k, v) :: m, a => if k = a then v else Memory.read m a

/-- The array without an entry for an address. -/
def Memory.erase (m : Memory) (a : Nat) : Memory := m.filter (fun c => c.1 != a)

/-- Put an entry before the first entry with a higher address. -/
def Memory.insertCell : Memory → Nat → Byte → Memory
  | [], a, v => [(a, v)]
  | (k, x) :: m, a, v => if a < k then (a, v) :: (k, x) :: m else (k, x) :: Memory.insertCell m a v

/-- Set one byte of the array, keeping the canonical form. -/
def Memory.write (m : Memory) (a : Nat) (v : Byte) : Memory :=
  if v = Memory.unlisted then Memory.erase m a else Memory.insertCell (Memory.erase m a) a v

/-! ## The Memory Unit (R52 to R56) -/

/-- `readByte` (R52). -/
def State.readByte (s : State) (a : Word) : Byte := s.mem.read a.toNat

/-- `readWord` (R53): little-endian, the second address wraps. -/
def State.readWord (s : State) (a : Word) : Word := mkWord (s.readByte (a + 1)) (s.readByte a)

/-- Append an event to the diagnostic stream (R35). -/
def State.log (s : State) (e : DiagEvent) : State := { s with diag := s.diag ++ [e] }

/-- The address is in the read-only region (R51). -/
def isRom (a : Word) : Bool := decide (a.toNat < romBoundary)

/-- `writeByte` (R54, R55): a write below the boundary is refused with a warning. -/
def State.writeByte (s : State) (a : Word) (v : Byte) : State :=
  if isRom a then s.log (.romWrite a) else { s with mem := s.mem.write a.toNat v }

/-- `writeWord` (R56): the whole word is refused, with one warning, if its first byte is read-only; else two byte writes,
the low byte first. -/
def State.writeWord (s : State) (a : Word) (v : Word) : State :=
  if isRom a then s.log (.romWrite a) else (s.writeByte a (loByte v)).writeByte (a + 1) (hiByte v)

/-! ## The register file (R21 to R24) -/

/-- Read an 8-bit half (R22). -/
def State.get8 (s : State) : Reg8 → Byte
  | .a => hiByte s.af
  | .f => loByte s.af
  | .b => hiByte s.bc
  | .c => loByte s.bc
  | .d => hiByte s.de
  | .e => loByte s.de
  | .h => hiByte s.hl
  | .l => loByte s.hl

/-- Write an 8-bit half; the other half of its pair stays (R23). `F` keeps only bits 7:4 of what is written (R26). -/
def State.set8 (s : State) (r : Reg8) (v : Byte) : State :=
  match r with
  | .a => { s with af := mkWord v (loByte s.af) }
  | .f => { s with af := mkWord (hiByte s.af) (v &&& 0xF0) }
  | .b => { s with bc := mkWord v (loByte s.bc) }
  | .c => { s with bc := mkWord (hiByte s.bc) v }
  | .d => { s with de := mkWord v (loByte s.de) }
  | .e => { s with de := mkWord (hiByte s.de) v }
  | .h => { s with hl := mkWord v (loByte s.hl) }
  | .l => { s with hl := mkWord (hiByte s.hl) v }

/-- Read a 16-bit register (R21, R29). -/
def State.get16 (s : State) : Reg16 → Word
  | .af => s.af
  | .bc => s.bc
  | .de => s.de
  | .hl => s.hl
  | .sp => s.sp

/-- Write a 16-bit register; `AF` keeps only bits 15:4 of what is written (R26). -/
def State.set16 (s : State) (r : Reg16) (v : Word) : State :=
  match r with
  | .af => { s with af := v &&& 0xFFF0 }
  | .bc => { s with bc := v }
  | .de => { s with de := v }
  | .hl => { s with hl := v }
  | .sp => { s with sp := v }

/-- The place of a flag in `F` (R26). -/
def flagBit : Flag → Nat
  | .z => 7
  | .n => 6
  | .h => 5
  | .c => 4

/-- Test one flag bit (R24). -/
def State.flag (s : State) (f : Flag) : Bool := bitAt (s.get8 .f) (flagBit f)

/-- Write one bit of a byte. -/
def putBit (v : Byte) (i : Nat) (b : Bool) : Byte := if b then v ||| bitMask i else v &&& ~~~ bitMask i

/-- Set one flag bit to 0 or 1; the other bits of `F` stay (R12, R24, R27). -/
def State.setFlag (s : State) (f : Flag) (b : Bool) : State :=
  { s with af := mkWord (hiByte s.af) (putBit (loByte s.af) (flagBit f) b) }

/-- `F` with the four flags given and bits 3:0 zero (R26). -/
def flagByte (z n h c : Bool) : Byte :=
  putBit (putBit (putBit (putBit 0 7 z) 6 n) 5 h) 4 c

/-- `F <- (z, n, h, c)`: write all of `F`. -/
def State.setFlags (s : State) (z n h c : Bool) : State := s.set8 .f (flagByte z n h c)

/-- Clear the whole flag register (R24). -/
def State.clearFlags (s : State) : State := s.set8 .f 0

/-! ## The end of a handler (R15, R104) -/

/-- `pc <- pc +16 len; cycles <- cycles + m`. -/
def State.retire (s : State) (len : Word) (m : Nat) : State := { s with pc := s.pc + len, cycles := s.cycles + m }

/-- `pc <- target; cycles <- cycles + m`, the taken path of a control transfer (R201). -/
def State.jump (s : State) (target : Word) (m : Nat) : State := { s with pc := target, cycles := s.cycles + m }

/-! ## The stack (R160, R161) -/

/-- `push16` (R160). -/
def State.push16 (s : State) (v : Word) : State :=
  let s := { s with sp := s.sp - 2 }
  s.writeWord s.sp v

/-- The word `pop16` returns (R161). -/
def State.stackTop (s : State) : Word := s.readWord s.sp

/-- What `pop16` does to `SP` (R161). -/
def State.dropWord (s : State) : State := { s with sp := s.sp + 2 }

/-! ## The populated entries (R86) -/

/-- The gap bytes of the primary table (R90). -/
def gapBytes : List Byte := [0x10, 0x76, 0xD9, 0xF3, 0xFB]

/-- The illegal bytes of the primary table (R89). -/
def illegalBytes : List Byte := [0xD3, 0xDB, 0xDD, 0xE3, 0xE4, 0xEB, 0xEC, 0xED, 0xF4, 0xFC, 0xFD]

/-- The primary entries that profile `FULL` adds to profile `DOC_NAMED` (R86). -/
def fullOnlyBytes : List Byte :=
  [0x03, 0x13, 0x23, 0x33, 0x0B, 0x1B, 0x2B, 0x3B, 0x09, 0x19, 0x29, 0x39] ++   -- INC rr, DEC rr, ADD HL,rr
  [0x07, 0x0F, 0x17, 0x1F] ++                                                 -- RLCA, RRCA, RLA, RRA
  [0x27, 0x2F, 0x37, 0x3F] ++                                                 -- DAA, CPL, SCF, CCF
  [0x18, 0xC3, 0xE9, 0xCD, 0xC9, 0xC0, 0xC8, 0xD0, 0xD8] ++                   -- JR, JP, JP HL, CALL, RET, RET cc
  [0xC7, 0xCF, 0xD7, 0xDF, 0xE7, 0xEF, 0xF7, 0xFF] ++                         -- RST
  [0xC1, 0xD1, 0xE1, 0xF1, 0xC5, 0xD5, 0xE5, 0xF5, 0xE8]                      -- POP, PUSH, ADD SP,e8

/-- The entry is a documented instruction: it has a handler a build can put into the table (R91). -/
def documented : Key → Bool
  | (.primary, b) => !(gapBytes.contains b) && !(illegalBytes.contains b) && b != 0xCB
  | (.cb, _) => true

/-- The entries of profile `DOC_NAMED` (R86): no secondary entry. -/
def docNamed : Key → Bool
  | (.primary, b) => documented (.primary, b) && !(fullOnlyBytes.contains b)
  | (.cb, _) => false

/-- `key in POPULATED` (R86, R100). The gap bytes and the illegal bytes are never populated, whatever the build lists
(R89, R90). -/
def populated (p : Populated) (k : Key) : Bool :=
  match p with
  | .full => documented k
  | .docNamed => docNamed k
  | .only entries => documented k && entries.contains k

/-! ## The unknown-opcode handler: the core's one exception (R106, R107, R301) -/

/-- What the handler does after it has logged: stop at once, or count, and stop past the bound (R106). Nothing is
pushed, no vector is taken, and no register, flag, memory byte or cycle changes (R301, R305). -/
def State.raiseUnknown (s : State) (t : Table) (byte : Byte) : State :=
  match s.build.unknownPolicy with
  | .strict => { s with status := .fatal (.unknownOpcode t byte s.pc) }
  | .permissive =>
    if s.unknownCount + 1 > unknownBound then
      { s with unknownCount := s.unknownCount + 1, status := .fatal (.unknownBoundExceeded t byte s.pc) }
    else
      { s with unknownCount := s.unknownCount + 1,
               pc := s.pc + BitVec.ofNat 16 s.build.unknownPcAdvance.val }

/-- The unknown-opcode handler (R106): log the entry, then raise it. There is no return from it (R306). -/
def State.unknown (s : State) (t : Table) (byte : Byte) : State :=
  (s.log (.unknownOpcode t byte s.pc)).raiseUnknown t byte

end Sys2Proof.Machine
end

