-- ==== Sys2Proof/Machine/Flags.lean ====
section
/-! DEFINITION. The arithmetic of the core with its flags: the 8-bit ALU (R120 to R123), the 16-bit sums (R230, R233),
DAA (R153) and the eight shift functions (R250). Sums are taken in the unbounded naturals and narrowed at the end, as
the rules write them. -/

namespace Sys2Proof.Machine

/-- A result byte and the four flags computed with it. -/
structure AluOut where
  res : Byte
  z : Bool
  n : Bool
  h : Bool
  c : Bool
deriving DecidableEq, Repr

/-- The low nibble, `v & 0xF`, as a number. -/
def lowNibble (v : Byte) : Nat := v.toNat % 16

/-- `add8` (R120). -/
def add8 (a b : Byte) (cin : Bool) : AluOut :=
  let t := a.toNat + b.toNat + cin.toNat
  { res := BitVec.ofNat 8 t
    z := BitVec.ofNat 8 t == 0
    n := false
    h := decide (lowNibble a + lowNibble b + cin.toNat > 0xF)
    c := decide (t > 0xFF) }

/-- `sub8` (R121). -/
def sub8 (a b : Byte) (cin : Bool) : AluOut :=
  let res := a - b - bitByte cin
  { res := res
    z := res == 0
    n := true
    h := decide (lowNibble b + cin.toNat > lowNibble a)
    c := decide (b.toNat + cin.toNat > a.toNat) }

/-- `logic8` (R122): `h` is 1 for AND and 0 for OR and XOR. -/
def logic8 (res : Byte) (h : Bool) : AluOut := { res := res, z := res == 0, n := false, h := h, c := false }

/-- The operation of the 8-bit ALU block on `A`, the operand and the carry flag (R85, R125 to R148). CP computes SUB. -/
def alu (op : AluOp) (a b : Byte) (carry : Bool) : AluOut :=
  match op with
  | .add => add8 a b false
  | .adc => add8 a b carry
  | .sub => sub8 a b false
  | .sbc => sub8 a b carry
  | .and => logic8 (a &&& b) true
  | .xor => logic8 (a ^^^ b) false
  | .or => logic8 (a ||| b) false
  | .cp => sub8 a b false

/-- `inc8` (R123): `c` is what `COMPUTE` writes. -/
def inc8 (v : Byte) : AluOut := add8 v 1 false

/-- `dec8` (R123). -/
def dec8 (v : Byte) : AluOut := sub8 v 1 false

/-- The result and flags of DAA (R153). N is left as it was. -/
def daa (a : Byte) (n h c : Bool) : AluOut :=
  if n then
    let x := if c then a - 0x60 else a
    let y := if h then x - 0x06 else x
    { res := y, z := y == 0, n := n, h := false, c := c }
  else
    let carryOut := c || decide (a.toNat > 0x99)
    let x := if carryOut then a + 0x60 else a
    let y := if h || decide (lowNibble x > 0x09) then x + 0x06 else x
    { res := y, z := y == 0, n := n, h := false, c := carryOut }

/-- A 16-bit result and the two flags computed with it. -/
structure SumOut where
  res : Word
  h : Bool
  c : Bool
deriving DecidableEq, Repr

/-- `addsp` (R230): the flags come from the unsigned sum of the low byte of `sp` and the byte `e`. -/
def addSp (sp : Word) (e : Byte) : SumOut :=
  { res := sp + sext16 e
    h := decide (sp.toNat % 16 + lowNibble e > 0xF)
    c := decide (sp.toNat % 256 + e.toNat > 0xFF) }

/-- The sum of ADD HL,rr (R233): carries out of bit 11 and bit 15. -/
def addHl (a b : Word) : SumOut :=
  let t := a.toNat + b.toNat
  { res := BitVec.ofNat 16 t
    h := decide (a.toNat % 4096 + b.toNat % 4096 > 0xFFF)
    c := decide (t > 0xFFFF) }

/-- A shifted byte and the carry out of it. -/
structure ShiftOut where
  res : Byte
  co : Bool
deriving DecidableEq, Repr

/-- The eight functions of R250. -/
def shift (op : ShiftOp) (v : Byte) (cin : Bool) : ShiftOut :=
  match op with
  | .rlc => { res := (v <<< 1) ||| bitByte (bitAt v 7), co := bitAt v 7 }
  | .rrc => { res := (v >>> 1) ||| (bitByte (bitAt v 0) <<< 7), co := bitAt v 0 }
  | .rl => { res := (v <<< 1) ||| bitByte cin, co := bitAt v 7 }
  | .rr => { res := (v >>> 1) ||| (bitByte cin <<< 7), co := bitAt v 0 }
  | .sla => { res := v <<< 1, co := bitAt v 7 }
  | .sra => { res := (v >>> 1) ||| (v &&& 0x80), co := bitAt v 0 }
  | .swap => { res := (v <<< 4) ||| (v >>> 4), co := false }
  | .srl => { res := v >>> 1, co := bitAt v 0 }

end Sys2Proof.Machine
end

