-- ==== Sys2Proof/Machine/Operands.lean ====
section
/-! DEFINITION. Operand fields, conditions and effective addresses (R82, R84, R85, R159, R200). -/

namespace Sys2Proof.Machine

/-- What the 3-bit field `r8` names (R82): a register, or `none` for the memory byte at HL. -/
def reg8Of : Nat → Option Reg8
  | 0 => some .b
  | 1 => some .c
  | 2 => some .d
  | 3 => some .e
  | 4 => some .h
  | 5 => some .l
  | 7 => some .a
  | _ => none

/-- The shift function a 3-bit `y` selects (R85, R250). -/
def shiftOpOf : Nat → ShiftOp
  | 0 => .rlc
  | 1 => .rrc
  | 2 => .rl
  | 3 => .rr
  | 4 => .sla
  | 5 => .sra
  | 6 => .swap
  | _ => .srl

/-- `cond(cc)` (R200), on the flags before the instruction. -/
def State.cond (s : State) : Cond → Bool
  | .nz => !s.flag .z
  | .z => s.flag .z
  | .nc => !s.flag .c
  | .c => s.flag .c

/-- The address of the `(C)` forms (R92, R159). -/
def State.addrC (s : State) : Word := highPage (s.get8 .c)

/-- The address a pushed word goes to: the new `SP` (R160). -/
def State.pushAddr (s : State) : Word := s.sp - 2

/-- The carry flag after an 8-bit INC or DEC that computed the carry `c` (R123). -/
def State.incDecCarry (s : State) (c : Bool) : Bool :=
  match s.build.incDecCarry with
  | .preserve => s.flag .c
  | .compute => c

end Sys2Proof.Machine
end

