-- ==== Sys2Proof/Machine/Alu16.lean ====
section
/-! DEFINITION. 16-bit arithmetic (R230 to R235): the shared operations, then one meaning per instruction. -/

namespace Sys2Proof.Machine

/-- `INC rr` (R231) and `DEC rr` (R232). No flag changes. -/
def stepPair (delta : Word) (r : Reg16) (s : State) : State := (s.set16 r (s.get16 r + delta)).retire 1 2

/-- `ADD HL,rr` (R233). Z is unchanged. -/
def addToHl (r : Reg16) (s : State) : State :=
  let o := addHl s.hl (s.get16 r)
  ((((s.set16 .hl o.res).setFlag .n false).setFlag .h o.h).setFlag .c o.c).retire 1 2

/-- `ADD SP,e8` (R234). -/
def addToSp (e : Byte) (s : State) : State :=
  let o := addSp s.sp e
  ((s.set16 .sp o.res).setFlags false false o.h o.c).retire 2 4

/-- `INC BC` (R231). -/
def execIncBc (s : State) : Result := .next (stepPair 1 .bc s)

/-- `ADD HL,BC` (R233). -/
def execAddHlBc (s : State) : Result := .next (addToHl .bc s)

/-- `DEC BC` (R232). -/
def execDecBc (s : State) : Result := .next (stepPair (-1) .bc s)

/-- `INC DE` (R231). -/
def execIncDe (s : State) : Result := .next (stepPair 1 .de s)

/-- `ADD HL,DE` (R233). -/
def execAddHlDe (s : State) : Result := .next (addToHl .de s)

/-- `DEC DE` (R232). -/
def execDecDe (s : State) : Result := .next (stepPair (-1) .de s)

/-- `INC HL` (R231). -/
def execIncHl (s : State) : Result := .next (stepPair 1 .hl s)

/-- `ADD HL,HL` (R233). -/
def execAddHlHl (s : State) : Result := .next (addToHl .hl s)

/-- `DEC HL` (R232). -/
def execDecHl (s : State) : Result := .next (stepPair (-1) .hl s)

/-- `INC SP` (R231). -/
def execIncSp (s : State) : Result := .next (stepPair 1 .sp s)

/-- `ADD HL,SP` (R233). -/
def execAddHlSp (s : State) : Result := .next (addToHl .sp s)

/-- `DEC SP` (R232). -/
def execDecSp (s : State) : Result := .next (stepPair (-1) .sp s)

/-- `ADD SP,e8` (R234). -/
def execAddSpE8 (e : Byte) (s : State) : Result := .next (addToSp e s)

end Sys2Proof.Machine
end

