-- ==== Sys2Proof/Machine/Alu8.lean ====
section
/-! DEFINITION. The 8-bit ALU family (R120 to R157): the shared operations, then one meaning per instruction. -/

namespace Sys2Proof.Machine

/-- Operate on `A` and a byte. CP discards the result (R146); every other operation writes it to `A`. All of `F` is
written. -/
def State.aluWrite (s : State) (op : AluOp) (b : Byte) : State :=
  let r := alu op (s.get8 .a) b (s.flag .c)
  match op with
  | .cp => s.setFlags r.z r.n r.h r.c
  | _ => (s.set8 .a r.res).setFlags r.z r.n r.h r.c

/-- The register form of the ALU block (R124). -/
def aluReg (op : AluOp) (r : Reg8) (s : State) : State := (s.aluWrite op (s.get8 r)).retire 1 1

/-- The `(HL)` form of the ALU block (R124). -/
def aluMem (op : AluOp) (s : State) : State := (s.aluWrite op (s.readByte s.hl)).retire 1 2

/-- The immediate form of the ALU block (R124). -/
def aluImm (op : AluOp) (d : Byte) (s : State) : State := (s.aluWrite op d).retire 2 2

/-- The flags of INC and DEC: Z, N and H, and C as `INCDEC_CARRY` decides (R123). -/
def State.incDecFlags (s : State) (r : AluOut) : State :=
  (((s.setFlag .z r.z).setFlag .n r.n).setFlag .h r.h).setFlag .c (s.incDecCarry r.c)

/-- INC r (R149) and DEC r (R151), with `f` one of `inc8` and `dec8`. -/
def stepReg (f : Byte → AluOut) (r : Reg8) (s : State) : State :=
  let o := f (s.get8 r)
  ((s.set8 r o.res).incDecFlags o).retire 1 1

/-- INC (HL) (R150) and DEC (HL) (R152): the flags come from the byte read, even when the write is refused. -/
def stepMem (f : Byte → AluOut) (s : State) : State :=
  let o := f (s.readByte s.hl)
  ((s.writeByte s.hl o.res).incDecFlags o).retire 1 3

/-- DAA (R153). -/
def adjustDecimal (s : State) : State :=
  let r := daa (s.get8 .a) (s.flag .n) (s.flag .h) (s.flag .c)
  ((((s.set8 .a r.res).setFlag .z r.z).setFlag .h false).setFlag .c r.c).retire 1 1

/-- CPL (R154). -/
def complementA (s : State) : State :=
  (((s.set8 .a (~~~ s.get8 .a)).setFlag .n true).setFlag .h true).retire 1 1

/-- SCF (R155) and CCF (R156), which write `c` to the carry flag. -/
def writeCarry (c : Bool) (s : State) : State :=
  (((s.setFlag .n false).setFlag .h false).setFlag .c c).retire 1 1

/-- `INC B` (R149). -/
def execIncB (s : State) : Result := .next (stepReg inc8 .b s)

/-- `DEC B` (R151). -/
def execDecB (s : State) : Result := .next (stepReg dec8 .b s)

/-- `INC C` (R149). -/
def execIncC (s : State) : Result := .next (stepReg inc8 .c s)

/-- `DEC C` (R151). -/
def execDecC (s : State) : Result := .next (stepReg dec8 .c s)

/-- `INC D` (R149). -/
def execIncD (s : State) : Result := .next (stepReg inc8 .d s)

/-- `DEC D` (R151). -/
def execDecD (s : State) : Result := .next (stepReg dec8 .d s)

/-- `INC E` (R149). -/
def execIncE (s : State) : Result := .next (stepReg inc8 .e s)

/-- `DEC E` (R151). -/
def execDecE (s : State) : Result := .next (stepReg dec8 .e s)

/-- `INC H` (R149). -/
def execIncH (s : State) : Result := .next (stepReg inc8 .h s)

/-- `DEC H` (R151). -/
def execDecH (s : State) : Result := .next (stepReg dec8 .h s)

/-- `DAA` (R153). -/
def execDaa (s : State) : Result := .next (adjustDecimal s)

/-- `INC L` (R149). -/
def execIncL (s : State) : Result := .next (stepReg inc8 .l s)

/-- `DEC L` (R151). -/
def execDecL (s : State) : Result := .next (stepReg dec8 .l s)

/-- `CPL` (R154). -/
def execCpl (s : State) : Result := .next (complementA s)

/-- `INC (HL)` (R150). -/
def execIncAtHl (s : State) : Result := .next (stepMem inc8 s)

/-- `DEC (HL)` (R152). -/
def execDecAtHl (s : State) : Result := .next (stepMem dec8 s)

/-- `SCF` (R155). -/
def execScf (s : State) : Result := .next (writeCarry true s)

/-- `INC A` (R149). -/
def execIncA (s : State) : Result := .next (stepReg inc8 .a s)

/-- `DEC A` (R151). -/
def execDecA (s : State) : Result := .next (stepReg dec8 .a s)

/-- `CCF` (R156). -/
def execCcf (s : State) : Result := .next (writeCarry (!s.flag .c) s)

/-- `ADD A,B` (R125). -/
def execAddAB (s : State) : Result := .next (aluReg .add .b s)

/-- `ADD A,C` (R125). -/
def execAddAC (s : State) : Result := .next (aluReg .add .c s)

/-- `ADD A,D` (R125). -/
def execAddAD (s : State) : Result := .next (aluReg .add .d s)

/-- `ADD A,E` (R125). -/
def execAddAE (s : State) : Result := .next (aluReg .add .e s)

/-- `ADD A,H` (R125). -/
def execAddAH (s : State) : Result := .next (aluReg .add .h s)

/-- `ADD A,L` (R125). -/
def execAddAL (s : State) : Result := .next (aluReg .add .l s)

/-- `ADD A,(HL)` (R126). -/
def execAddAAtHl (s : State) : Result := .next (aluMem .add s)

/-- `ADD A,A` (R125). -/
def execAddAA (s : State) : Result := .next (aluReg .add .a s)

/-- `ADC A,B` (R128). -/
def execAdcAB (s : State) : Result := .next (aluReg .adc .b s)

/-- `ADC A,C` (R128). -/
def execAdcAC (s : State) : Result := .next (aluReg .adc .c s)

/-- `ADC A,D` (R128). -/
def execAdcAD (s : State) : Result := .next (aluReg .adc .d s)

/-- `ADC A,E` (R128). -/
def execAdcAE (s : State) : Result := .next (aluReg .adc .e s)

/-- `ADC A,H` (R128). -/
def execAdcAH (s : State) : Result := .next (aluReg .adc .h s)

/-- `ADC A,L` (R128). -/
def execAdcAL (s : State) : Result := .next (aluReg .adc .l s)

/-- `ADC A,(HL)` (R129). -/
def execAdcAAtHl (s : State) : Result := .next (aluMem .adc s)

/-- `ADC A,A` (R128). -/
def execAdcAA (s : State) : Result := .next (aluReg .adc .a s)

/-- `SUB B` (R131). -/
def execSubB (s : State) : Result := .next (aluReg .sub .b s)

/-- `SUB C` (R131). -/
def execSubC (s : State) : Result := .next (aluReg .sub .c s)

/-- `SUB D` (R131). -/
def execSubD (s : State) : Result := .next (aluReg .sub .d s)

/-- `SUB E` (R131). -/
def execSubE (s : State) : Result := .next (aluReg .sub .e s)

/-- `SUB H` (R131). -/
def execSubH (s : State) : Result := .next (aluReg .sub .h s)

/-- `SUB L` (R131). -/
def execSubL (s : State) : Result := .next (aluReg .sub .l s)

/-- `SUB (HL)` (R132). -/
def execSubAtHl (s : State) : Result := .next (aluMem .sub s)

/-- `SUB A` (R131). -/
def execSubA (s : State) : Result := .next (aluReg .sub .a s)

/-- `SBC A,B` (R134). -/
def execSbcAB (s : State) : Result := .next (aluReg .sbc .b s)

/-- `SBC A,C` (R134). -/
def execSbcAC (s : State) : Result := .next (aluReg .sbc .c s)

/-- `SBC A,D` (R134). -/
def execSbcAD (s : State) : Result := .next (aluReg .sbc .d s)

/-- `SBC A,E` (R134). -/
def execSbcAE (s : State) : Result := .next (aluReg .sbc .e s)

/-- `SBC A,H` (R134). -/
def execSbcAH (s : State) : Result := .next (aluReg .sbc .h s)

/-- `SBC A,L` (R134). -/
def execSbcAL (s : State) : Result := .next (aluReg .sbc .l s)

/-- `SBC A,(HL)` (R135). -/
def execSbcAAtHl (s : State) : Result := .next (aluMem .sbc s)

/-- `SBC A,A` (R134). -/
def execSbcAA (s : State) : Result := .next (aluReg .sbc .a s)

/-- `AND B` (R137). -/
def execAndB (s : State) : Result := .next (aluReg .and .b s)

/-- `AND C` (R137). -/
def execAndC (s : State) : Result := .next (aluReg .and .c s)

/-- `AND D` (R137). -/
def execAndD (s : State) : Result := .next (aluReg .and .d s)

/-- `AND E` (R137). -/
def execAndE (s : State) : Result := .next (aluReg .and .e s)

/-- `AND H` (R137). -/
def execAndH (s : State) : Result := .next (aluReg .and .h s)

/-- `AND L` (R137). -/
def execAndL (s : State) : Result := .next (aluReg .and .l s)

/-- `AND (HL)` (R138). -/
def execAndAtHl (s : State) : Result := .next (aluMem .and s)

/-- `AND A` (R137). -/
def execAndA (s : State) : Result := .next (aluReg .and .a s)

/-- `XOR B` (R140). -/
def execXorB (s : State) : Result := .next (aluReg .xor .b s)

/-- `XOR C` (R140). -/
def execXorC (s : State) : Result := .next (aluReg .xor .c s)

/-- `XOR D` (R140). -/
def execXorD (s : State) : Result := .next (aluReg .xor .d s)

/-- `XOR E` (R140). -/
def execXorE (s : State) : Result := .next (aluReg .xor .e s)

/-- `XOR H` (R140). -/
def execXorH (s : State) : Result := .next (aluReg .xor .h s)

/-- `XOR L` (R140). -/
def execXorL (s : State) : Result := .next (aluReg .xor .l s)

/-- `XOR (HL)` (R141). -/
def execXorAtHl (s : State) : Result := .next (aluMem .xor s)

/-- `XOR A` (R140). -/
def execXorA (s : State) : Result := .next (aluReg .xor .a s)

/-- `OR B` (R143). -/
def execOrB (s : State) : Result := .next (aluReg .or .b s)

/-- `OR C` (R143). -/
def execOrC (s : State) : Result := .next (aluReg .or .c s)

/-- `OR D` (R143). -/
def execOrD (s : State) : Result := .next (aluReg .or .d s)

/-- `OR E` (R143). -/
def execOrE (s : State) : Result := .next (aluReg .or .e s)

/-- `OR H` (R143). -/
def execOrH (s : State) : Result := .next (aluReg .or .h s)

/-- `OR L` (R143). -/
def execOrL (s : State) : Result := .next (aluReg .or .l s)

/-- `OR (HL)` (R144). -/
def execOrAtHl (s : State) : Result := .next (aluMem .or s)

/-- `OR A` (R143). -/
def execOrA (s : State) : Result := .next (aluReg .or .a s)

/-- `CP B` (R146). -/
def execCpB (s : State) : Result := .next (aluReg .cp .b s)

/-- `CP C` (R146). -/
def execCpC (s : State) : Result := .next (aluReg .cp .c s)

/-- `CP D` (R146). -/
def execCpD (s : State) : Result := .next (aluReg .cp .d s)

/-- `CP E` (R146). -/
def execCpE (s : State) : Result := .next (aluReg .cp .e s)

/-- `CP H` (R146). -/
def execCpH (s : State) : Result := .next (aluReg .cp .h s)

/-- `CP L` (R146). -/
def execCpL (s : State) : Result := .next (aluReg .cp .l s)

/-- `CP (HL)` (R147). -/
def execCpAtHl (s : State) : Result := .next (aluMem .cp s)

/-- `CP A` (R146). -/
def execCpA (s : State) : Result := .next (aluReg .cp .a s)

/-- `ADD A,d8` (R127). -/
def execAddAD8 (d : Byte) (s : State) : Result := .next (aluImm .add d s)

/-- `ADC A,d8` (R130). -/
def execAdcAD8 (d : Byte) (s : State) : Result := .next (aluImm .adc d s)

/-- `SUB d8` (R133). -/
def execSubD8 (d : Byte) (s : State) : Result := .next (aluImm .sub d s)

/-- `SBC A,d8` (R136). -/
def execSbcAD8 (d : Byte) (s : State) : Result := .next (aluImm .sbc d s)

/-- `AND d8` (R139). -/
def execAndD8 (d : Byte) (s : State) : Result := .next (aluImm .and d s)

/-- `XOR d8` (R142). -/
def execXorD8 (d : Byte) (s : State) : Result := .next (aluImm .xor d s)

/-- `OR d8` (R145). -/
def execOrD8 (d : Byte) (s : State) : Result := .next (aluImm .or d s)

/-- `CP d8` (R148). -/
def execCpD8 (d : Byte) (s : State) : Result := .next (aluImm .cp d s)

end Sys2Proof.Machine
end

