-- ==== Sys2Proof/Machine/Control.lean ====
section
/-! DEFINITION. Jumps, calls, returns and restarts (R200 to R213): the shared operations, then one meaning per
instruction. Each first forms the fall-through address `pc +16 len` (R201). -/

namespace Sys2Proof.Machine

/-- A relative target: from the fall-through address (R201). -/
def State.relTarget (s : State) (e : Byte) : Word := s.pc + 2 + sext16 e

/-- `JR e8` (R202). -/
def jumpRel (e : Byte) (s : State) : State := s.jump (s.relTarget e) 3

/-- `JR cc,e8` (R203). -/
def jumpRelIf (cc : Cond) (e : Byte) (s : State) : State :=
  if s.cond cc then s.jump (s.relTarget e) 3 else s.retire 2 2

/-- `JP a16` (R204). -/
def jumpTo (a : Word) (s : State) : State := s.jump a 4

/-- `JP cc,a16` (R205). -/
def jumpToIf (cc : Cond) (a : Word) (s : State) : State :=
  if s.cond cc then s.jump a 4 else s.retire 3 3

/-- `JP HL` (R206). -/
def jumpHl (s : State) : State := s.jump s.hl 1

/-- `CALL a16` (R207). -/
def callTo (a : Word) (s : State) : State := (s.push16 (s.pc + 3)).jump a 6

/-- `CALL cc,a16` (R208). -/
def callToIf (cc : Cond) (a : Word) (s : State) : State :=
  if s.cond cc then (s.push16 (s.pc + 3)).jump a 6 else s.retire 3 3

/-- `RET` (R209). -/
def returnPop (s : State) : State := s.dropWord.jump s.stackTop 4

/-- `RET cc` (R210). -/
def returnPopIf (cc : Cond) (s : State) : State :=
  if s.cond cc then s.dropWord.jump s.stackTop 5 else s.retire 1 2

/-- `RST n` with `n = t * 8` (R211). -/
def restart (t : Nat) (s : State) : State := (s.push16 (s.pc + 1)).jump (BitVec.ofNat 16 (t * 8)) 4

/-- `JR e8` (R202). -/
def execJrE8 (e : Byte) (s : State) : Result := .next (jumpRel e s)

/-- `JR NZ,e8` (R203). -/
def execJrNzE8 (e : Byte) (s : State) : Result := .next (jumpRelIf .nz e s)

/-- `JR Z,e8` (R203). -/
def execJrZE8 (e : Byte) (s : State) : Result := .next (jumpRelIf .z e s)

/-- `JR NC,e8` (R203). -/
def execJrNcE8 (e : Byte) (s : State) : Result := .next (jumpRelIf .nc e s)

/-- `JR C,e8` (R203). -/
def execJrCE8 (e : Byte) (s : State) : Result := .next (jumpRelIf .c e s)

/-- `RET NZ` (R210). -/
def execRetNz (s : State) : Result := .next (returnPopIf .nz s)

/-- `JP NZ,a16` (R205). -/
def execJpNzA16 (a : Word) (s : State) : Result := .next (jumpToIf .nz a s)

/-- `JP a16` (R204). -/
def execJpA16 (a : Word) (s : State) : Result := .next (jumpTo a s)

/-- `CALL NZ,a16` (R208). -/
def execCallNzA16 (a : Word) (s : State) : Result := .next (callToIf .nz a s)

/-- `RST 00H` (R211). -/
def execRst00 (s : State) : Result := .next (restart 0 s)

/-- `RET Z` (R210). -/
def execRetZ (s : State) : Result := .next (returnPopIf .z s)

/-- `RET` (R209). -/
def execRet (s : State) : Result := .next (returnPop s)

/-- `JP Z,a16` (R205). -/
def execJpZA16 (a : Word) (s : State) : Result := .next (jumpToIf .z a s)

/-- `CALL Z,a16` (R208). -/
def execCallZA16 (a : Word) (s : State) : Result := .next (callToIf .z a s)

/-- `CALL a16` (R207). -/
def execCallA16 (a : Word) (s : State) : Result := .next (callTo a s)

/-- `RST 08H` (R211). -/
def execRst08 (s : State) : Result := .next (restart 1 s)

/-- `RET NC` (R210). -/
def execRetNc (s : State) : Result := .next (returnPopIf .nc s)

/-- `JP NC,a16` (R205). -/
def execJpNcA16 (a : Word) (s : State) : Result := .next (jumpToIf .nc a s)

/-- `CALL NC,a16` (R208). -/
def execCallNcA16 (a : Word) (s : State) : Result := .next (callToIf .nc a s)

/-- `RST 10H` (R211). -/
def execRst10 (s : State) : Result := .next (restart 2 s)

/-- `RET C` (R210). -/
def execRetC (s : State) : Result := .next (returnPopIf .c s)

/-- `JP C,a16` (R205). -/
def execJpCA16 (a : Word) (s : State) : Result := .next (jumpToIf .c a s)

/-- `CALL C,a16` (R208). -/
def execCallCA16 (a : Word) (s : State) : Result := .next (callToIf .c a s)

/-- `RST 18H` (R211). -/
def execRst18 (s : State) : Result := .next (restart 3 s)

/-- `RST 20H` (R211). -/
def execRst20 (s : State) : Result := .next (restart 4 s)

/-- `JP HL` (R206). -/
def execJpHl (s : State) : Result := .next (jumpHl s)

/-- `RST 28H` (R211). -/
def execRst28 (s : State) : Result := .next (restart 5 s)

/-- `RST 30H` (R211). -/
def execRst30 (s : State) : Result := .next (restart 6 s)

/-- `RST 38H` (R211). -/
def execRst38 (s : State) : Result := .next (restart 7 s)

end Sys2Proof.Machine
end

