-- ==== Sys2Proof/Machine/Loads.lean ====
section
/-! DEFINITION. Loads, stores and stack transfers (R158 to R187): the shared operations, then one meaning per
instruction. An operation that stores reads every operand from the state before it (R66). -/

namespace Sys2Proof.Machine

/-- Register to register (R162). -/
def copyReg (dst src : Reg8) (s : State) : State := (s.set8 dst (s.get8 src)).retire 1 1

/-- Load a register with the byte at an address (R163, R167, R168, R175, R177, R179). -/
def loadByte (r : Reg8) (addr : Word) (len : Word) (m : Nat) (s : State) : State :=
  (s.set8 r (s.readByte addr)).retire len m

/-- Store a byte at an address (R164, R166, R169, R170, R176, R178, R180). -/
def storeByte (addr : Word) (v : Byte) (len : Word) (m : Nat) (s : State) : State :=
  (s.writeByte addr v).retire len m

/-- Load a register with an immediate byte (R165). -/
def loadImm8 (r : Reg8) (d : Byte) (s : State) : State := (s.set8 r d).retire 2 2

/-- `LD A,(HL+)` (R171) and `LD A,(HL-)` (R172): HL moves by `delta` after the access. -/
def loadAStep (delta : Word) (s : State) : State :=
  ((s.set8 .a (s.readByte s.hl)).set16 .hl (s.hl + delta)).retire 1 2

/-- `LD (HL+),A` (R173) and `LD (HL-),A` (R174): HL moves even when the write is refused. -/
def storeAStep (delta : Word) (s : State) : State :=
  ((s.writeByte s.hl (s.get8 .a)).set16 .hl (s.hl + delta)).retire 1 2

/-- Load a 16-bit register with an immediate word (R181). -/
def loadImm16 (r : Reg16) (d : Word) (s : State) : State := (s.set16 r d).retire 3 3

/-- `LD (a16),SP` (R182). -/
def storeSp (a : Word) (s : State) : State := (s.writeWord a s.sp).retire 3 5

/-- `LD SP,HL` (R183). -/
def copyHlToSp (s : State) : State := (s.set16 .sp s.hl).retire 1 2

/-- `LD HL,SP+e8` (R184). -/
def loadHlSpPlus (e : Byte) (s : State) : State :=
  let r := addSp s.sp e
  ((s.set16 .hl r.res).setFlags false false r.h r.c).retire 2 3

/-- `PUSH rr` (R185). -/
def pushReg (r : Reg16) (s : State) : State := (s.push16 (s.get16 r)).retire 1 4

/-- `POP rr` (R186). -/
def popReg (r : Reg16) (s : State) : State := (s.dropWord.set16 r s.stackTop).retire 1 3

/-- `POP AF` (R187): `F` keeps bits 7:4 of the low byte. -/
def popAf (s : State) : State :=
  ((s.dropWord.set8 .a (hiByte s.stackTop)).set8 .f (loByte s.stackTop)).retire 1 3

/-- `LD BC,d16` (R181). -/
def execLdBcD16 (d : Word) (s : State) : Result := .next (loadImm16 .bc d s)

/-- `LD (BC),A` (R169). -/
def execLdAtBcA (s : State) : Result := .next (storeByte s.bc (s.get8 .a) 1 2 s)

/-- `LD B,d8` (R165). -/
def execLdBD8 (d : Byte) (s : State) : Result := .next (loadImm8 .b d s)

/-- `LD (a16),SP` (R182). -/
def execLdAtA16Sp (a : Word) (s : State) : Result := .next (storeSp a s)

/-- `LD A,(BC)` (R167). -/
def execLdAAtBc (s : State) : Result := .next (loadByte .a s.bc 1 2 s)

/-- `LD C,d8` (R165). -/
def execLdCD8 (d : Byte) (s : State) : Result := .next (loadImm8 .c d s)

/-- `LD DE,d16` (R181). -/
def execLdDeD16 (d : Word) (s : State) : Result := .next (loadImm16 .de d s)

/-- `LD (DE),A` (R170). -/
def execLdAtDeA (s : State) : Result := .next (storeByte s.de (s.get8 .a) 1 2 s)

/-- `LD D,d8` (R165). -/
def execLdDD8 (d : Byte) (s : State) : Result := .next (loadImm8 .d d s)

/-- `LD A,(DE)` (R168). -/
def execLdAAtDe (s : State) : Result := .next (loadByte .a s.de 1 2 s)

/-- `LD E,d8` (R165). -/
def execLdED8 (d : Byte) (s : State) : Result := .next (loadImm8 .e d s)

/-- `LD HL,d16` (R181). -/
def execLdHlD16 (d : Word) (s : State) : Result := .next (loadImm16 .hl d s)

/-- `LD (HL+),A` (R173). -/
def execLdAtHlIncA (s : State) : Result := .next (storeAStep 1 s)

/-- `LD H,d8` (R165). -/
def execLdHD8 (d : Byte) (s : State) : Result := .next (loadImm8 .h d s)

/-- `LD A,(HL+)` (R171). -/
def execLdAAtHlInc (s : State) : Result := .next (loadAStep 1 s)

/-- `LD L,d8` (R165). -/
def execLdLD8 (d : Byte) (s : State) : Result := .next (loadImm8 .l d s)

/-- `LD SP,d16` (R181). -/
def execLdSpD16 (d : Word) (s : State) : Result := .next (loadImm16 .sp d s)

/-- `LD (HL-),A` (R174). -/
def execLdAtHlDecA (s : State) : Result := .next (storeAStep (-1) s)

/-- `LD (HL),d8` (R166). -/
def execLdAtHlD8 (d : Byte) (s : State) : Result := .next (storeByte s.hl d 2 3 s)

/-- `LD A,(HL-)` (R172). -/
def execLdAAtHlDec (s : State) : Result := .next (loadAStep (-1) s)

/-- `LD A,d8` (R165). -/
def execLdAD8 (d : Byte) (s : State) : Result := .next (loadImm8 .a d s)

/-- `LD B,B` (R162). -/
def execLdBB (s : State) : Result := .next (copyReg .b .b s)

/-- `LD B,C` (R162). -/
def execLdBC (s : State) : Result := .next (copyReg .b .c s)

/-- `LD B,D` (R162). -/
def execLdBD (s : State) : Result := .next (copyReg .b .d s)

/-- `LD B,E` (R162). -/
def execLdBE (s : State) : Result := .next (copyReg .b .e s)

/-- `LD B,H` (R162). -/
def execLdBH (s : State) : Result := .next (copyReg .b .h s)

/-- `LD B,L` (R162). -/
def execLdBL (s : State) : Result := .next (copyReg .b .l s)

/-- `LD B,(HL)` (R163). -/
def execLdBAtHl (s : State) : Result := .next (loadByte .b s.hl 1 2 s)

/-- `LD B,A` (R162). -/
def execLdBA (s : State) : Result := .next (copyReg .b .a s)

/-- `LD C,B` (R162). -/
def execLdCB (s : State) : Result := .next (copyReg .c .b s)

/-- `LD C,C` (R162). -/
def execLdCC (s : State) : Result := .next (copyReg .c .c s)

/-- `LD C,D` (R162). -/
def execLdCD (s : State) : Result := .next (copyReg .c .d s)

/-- `LD C,E` (R162). -/
def execLdCE (s : State) : Result := .next (copyReg .c .e s)

/-- `LD C,H` (R162). -/
def execLdCH (s : State) : Result := .next (copyReg .c .h s)

/-- `LD C,L` (R162). -/
def execLdCL (s : State) : Result := .next (copyReg .c .l s)

/-- `LD C,(HL)` (R163). -/
def execLdCAtHl (s : State) : Result := .next (loadByte .c s.hl 1 2 s)

/-- `LD C,A` (R162). -/
def execLdCA (s : State) : Result := .next (copyReg .c .a s)

/-- `LD D,B` (R162). -/
def execLdDB (s : State) : Result := .next (copyReg .d .b s)

/-- `LD D,C` (R162). -/
def execLdDC (s : State) : Result := .next (copyReg .d .c s)

/-- `LD D,D` (R162). -/
def execLdDD (s : State) : Result := .next (copyReg .d .d s)

/-- `LD D,E` (R162). -/
def execLdDE (s : State) : Result := .next (copyReg .d .e s)

/-- `LD D,H` (R162). -/
def execLdDH (s : State) : Result := .next (copyReg .d .h s)

/-- `LD D,L` (R162). -/
def execLdDL (s : State) : Result := .next (copyReg .d .l s)

/-- `LD D,(HL)` (R163). -/
def execLdDAtHl (s : State) : Result := .next (loadByte .d s.hl 1 2 s)

/-- `LD D,A` (R162). -/
def execLdDA (s : State) : Result := .next (copyReg .d .a s)

/-- `LD E,B` (R162). -/
def execLdEB (s : State) : Result := .next (copyReg .e .b s)

/-- `LD E,C` (R162). -/
def execLdEC (s : State) : Result := .next (copyReg .e .c s)

/-- `LD E,D` (R162). -/
def execLdED (s : State) : Result := .next (copyReg .e .d s)

/-- `LD E,E` (R162). -/
def execLdEE (s : State) : Result := .next (copyReg .e .e s)

/-- `LD E,H` (R162). -/
def execLdEH (s : State) : Result := .next (copyReg .e .h s)

/-- `LD E,L` (R162). -/
def execLdEL (s : State) : Result := .next (copyReg .e .l s)

/-- `LD E,(HL)` (R163). -/
def execLdEAtHl (s : State) : Result := .next (loadByte .e s.hl 1 2 s)

/-- `LD E,A` (R162). -/
def execLdEA (s : State) : Result := .next (copyReg .e .a s)

/-- `LD H,B` (R162). -/
def execLdHB (s : State) : Result := .next (copyReg .h .b s)

/-- `LD H,C` (R162). -/
def execLdHC (s : State) : Result := .next (copyReg .h .c s)

/-- `LD H,D` (R162). -/
def execLdHD (s : State) : Result := .next (copyReg .h .d s)

/-- `LD H,E` (R162). -/
def execLdHE (s : State) : Result := .next (copyReg .h .e s)

/-- `LD H,H` (R162). -/
def execLdHH (s : State) : Result := .next (copyReg .h .h s)

/-- `LD H,L` (R162). -/
def execLdHL (s : State) : Result := .next (copyReg .h .l s)

/-- `LD H,(HL)` (R163). -/
def execLdHAtHl (s : State) : Result := .next (loadByte .h s.hl 1 2 s)

/-- `LD H,A` (R162). -/
def execLdHA (s : State) : Result := .next (copyReg .h .a s)

/-- `LD L,B` (R162). -/
def execLdLB (s : State) : Result := .next (copyReg .l .b s)

/-- `LD L,C` (R162). -/
def execLdLC (s : State) : Result := .next (copyReg .l .c s)

/-- `LD L,D` (R162). -/
def execLdLD (s : State) : Result := .next (copyReg .l .d s)

/-- `LD L,E` (R162). -/
def execLdLE (s : State) : Result := .next (copyReg .l .e s)

/-- `LD L,H` (R162). -/
def execLdLH (s : State) : Result := .next (copyReg .l .h s)

/-- `LD L,L` (R162). -/
def execLdLL (s : State) : Result := .next (copyReg .l .l s)

/-- `LD L,(HL)` (R163). -/
def execLdLAtHl (s : State) : Result := .next (loadByte .l s.hl 1 2 s)

/-- `LD L,A` (R162). -/
def execLdLA (s : State) : Result := .next (copyReg .l .a s)

/-- `LD (HL),B` (R164). -/
def execLdAtHlB (s : State) : Result := .next (storeByte s.hl (s.get8 .b) 1 2 s)

/-- `LD (HL),C` (R164). -/
def execLdAtHlC (s : State) : Result := .next (storeByte s.hl (s.get8 .c) 1 2 s)

/-- `LD (HL),D` (R164). -/
def execLdAtHlD (s : State) : Result := .next (storeByte s.hl (s.get8 .d) 1 2 s)

/-- `LD (HL),E` (R164). -/
def execLdAtHlE (s : State) : Result := .next (storeByte s.hl (s.get8 .e) 1 2 s)

/-- `LD (HL),H` (R164). -/
def execLdAtHlH (s : State) : Result := .next (storeByte s.hl (s.get8 .h) 1 2 s)

/-- `LD (HL),L` (R164). -/
def execLdAtHlL (s : State) : Result := .next (storeByte s.hl (s.get8 .l) 1 2 s)

/-- `LD (HL),A` (R164). -/
def execLdAtHlA (s : State) : Result := .next (storeByte s.hl (s.get8 .a) 1 2 s)

/-- `LD A,B` (R162). -/
def execLdAB (s : State) : Result := .next (copyReg .a .b s)

/-- `LD A,C` (R162). -/
def execLdAC (s : State) : Result := .next (copyReg .a .c s)

/-- `LD A,D` (R162). -/
def execLdAD (s : State) : Result := .next (copyReg .a .d s)

/-- `LD A,E` (R162). -/
def execLdAE (s : State) : Result := .next (copyReg .a .e s)

/-- `LD A,H` (R162). -/
def execLdAH (s : State) : Result := .next (copyReg .a .h s)

/-- `LD A,L` (R162). -/
def execLdAL (s : State) : Result := .next (copyReg .a .l s)

/-- `LD A,(HL)` (R163). -/
def execLdAAtHl (s : State) : Result := .next (loadByte .a s.hl 1 2 s)

/-- `LD A,A` (R162). -/
def execLdAA (s : State) : Result := .next (copyReg .a .a s)

/-- `POP BC` (R186). -/
def execPopBc (s : State) : Result := .next (popReg .bc s)

/-- `PUSH BC` (R185). -/
def execPushBc (s : State) : Result := .next (pushReg .bc s)

/-- `POP DE` (R186). -/
def execPopDe (s : State) : Result := .next (popReg .de s)

/-- `PUSH DE` (R185). -/
def execPushDe (s : State) : Result := .next (pushReg .de s)

/-- `LDH (a8),A` (R178). -/
def execLdhAtA8A (a : Byte) (s : State) : Result := .next (storeByte (highPage a) (s.get8 .a) 2 3 s)

/-- `POP HL` (R186). -/
def execPopHl (s : State) : Result := .next (popReg .hl s)

/-- `LD (C),A` (R180). -/
def execLdAtCA (s : State) : Result := .next (storeByte s.addrC (s.get8 .a) 1 2 s)

/-- `PUSH HL` (R185). -/
def execPushHl (s : State) : Result := .next (pushReg .hl s)

/-- `LD (a16),A` (R176). -/
def execLdAtA16A (a : Word) (s : State) : Result := .next (storeByte a (s.get8 .a) 3 4 s)

/-- `LDH A,(a8)` (R177). -/
def execLdhAAtA8 (a : Byte) (s : State) : Result := .next (loadByte .a (highPage a) 2 3 s)

/-- `POP AF` (R187). -/
def execPopAf (s : State) : Result := .next (popAf s)

/-- `LD A,(C)` (R179). -/
def execLdAAtC (s : State) : Result := .next (loadByte .a s.addrC 1 2 s)

/-- `PUSH AF` (R185). -/
def execPushAf (s : State) : Result := .next (pushReg .af s)

/-- `LD HL,SP+e8` (R184). -/
def execLdHlSpE8 (e : Byte) (s : State) : Result := .next (loadHlSpPlus e s)

/-- `LD SP,HL` (R183). -/
def execLdSpHl (s : State) : Result := .next (copyHlToSp s)

/-- `LD A,(a16)` (R175). -/
def execLdAAtA16 (a : Word) (s : State) : Result := .next (loadByte .a a 3 4 s)

end Sys2Proof.Machine
end

