-- ==== Sys2Proof/Machine/RotateShiftBit.lean ====
section
/-! DEFINITION. Rotates, shifts and bit operations (R250 to R277): the shared operations, then one meaning per
instruction. -/

namespace Sys2Proof.Machine

/-- RLCA, RRCA, RLA and RRA (R251 to R254): Z is forced to 0. -/
def rotateA (op : ShiftOp) (s : State) : State :=
  let o := shift op (s.get8 .a) (s.flag .c)
  ((s.set8 .a o.res).setFlags false false false o.co).retire 1 1

/-- The flags of the secondary shifts: Z 0 0 C (R250). -/
def State.shiftFlags (s : State) (o : ShiftOut) : State := s.setFlags (o.res == 0) false false o.co

/-- A secondary shift of a register (R256 to R270). -/
def shiftReg (op : ShiftOp) (r : Reg8) (s : State) : State :=
  let o := shift op (s.get8 r) (s.flag .c)
  ((s.set8 r o.res).shiftFlags o).retire 2 2

/-- A secondary shift of the byte at HL (R257 to R271): the flags are written even when the write is refused. -/
def shiftMem (op : ShiftOp) (s : State) : State :=
  let o := shift op (s.readByte s.hl) (s.flag .c)
  ((s.writeByte s.hl o.res).shiftFlags o).retire 2 4

/-- The flags of BIT: Z 0 1 - (R272). -/
def State.bitFlags (s : State) (set : Bool) : State :=
  ((s.setFlag .z (!set)).setFlag .n false).setFlag .h true

/-- `BIT b,r` (R272). -/
def testBitReg (b : Nat) (r : Reg8) (s : State) : State := (s.bitFlags (bitAt (s.get8 r) b)).retire 2 2

/-- `BIT b,(HL)` (R273): it never writes memory. -/
def testBitMem (b : Nat) (s : State) : State := (s.bitFlags (bitAt (s.readByte s.hl) b)).retire 2 3

/-- `RES b,r` (R274). -/
def resBitReg (b : Nat) (r : Reg8) (s : State) : State :=
  (s.set8 r (s.get8 r &&& ~~~ bitMask b)).retire 2 2

/-- `RES b,(HL)` (R275): the write is attempted even when the value does not change. -/
def resBitMem (b : Nat) (s : State) : State :=
  (s.writeByte s.hl (s.readByte s.hl &&& ~~~ bitMask b)).retire 2 4

/-- `SET b,r` (R276). -/
def setBitReg (b : Nat) (r : Reg8) (s : State) : State :=
  (s.set8 r (s.get8 r ||| bitMask b)).retire 2 2

/-- `SET b,(HL)` (R277). -/
def setBitMem (b : Nat) (s : State) : State :=
  (s.writeByte s.hl (s.readByte s.hl ||| bitMask b)).retire 2 4

/-- `RLCA` (R251). -/
def execRlca (s : State) : Result := .next (rotateA .rlc s)

/-- `RRCA` (R252). -/
def execRrca (s : State) : Result := .next (rotateA .rrc s)

/-- `RLA` (R253). -/
def execRla (s : State) : Result := .next (rotateA .rl s)

/-- `RRA` (R254). -/
def execRra (s : State) : Result := .next (rotateA .rr s)

/-- `RLC B` (R256). -/
def execRlcB (s : State) : Result := .next (shiftReg .rlc .b s)

/-- `RLC C` (R256). -/
def execRlcC (s : State) : Result := .next (shiftReg .rlc .c s)

/-- `RLC D` (R256). -/
def execRlcD (s : State) : Result := .next (shiftReg .rlc .d s)

/-- `RLC E` (R256). -/
def execRlcE (s : State) : Result := .next (shiftReg .rlc .e s)

/-- `RLC H` (R256). -/
def execRlcH (s : State) : Result := .next (shiftReg .rlc .h s)

/-- `RLC L` (R256). -/
def execRlcL (s : State) : Result := .next (shiftReg .rlc .l s)

/-- `RLC (HL)` (R257). -/
def execRlcAtHl (s : State) : Result := .next (shiftMem .rlc s)

/-- `RLC A` (R256). -/
def execRlcA (s : State) : Result := .next (shiftReg .rlc .a s)

/-- `RRC B` (R258). -/
def execRrcB (s : State) : Result := .next (shiftReg .rrc .b s)

/-- `RRC C` (R258). -/
def execRrcC (s : State) : Result := .next (shiftReg .rrc .c s)

/-- `RRC D` (R258). -/
def execRrcD (s : State) : Result := .next (shiftReg .rrc .d s)

/-- `RRC E` (R258). -/
def execRrcE (s : State) : Result := .next (shiftReg .rrc .e s)

/-- `RRC H` (R258). -/
def execRrcH (s : State) : Result := .next (shiftReg .rrc .h s)

/-- `RRC L` (R258). -/
def execRrcL (s : State) : Result := .next (shiftReg .rrc .l s)

/-- `RRC (HL)` (R259). -/
def execRrcAtHl (s : State) : Result := .next (shiftMem .rrc s)

/-- `RRC A` (R258). -/
def execRrcA (s : State) : Result := .next (shiftReg .rrc .a s)

/-- `RL B` (R260). -/
def execRlB (s : State) : Result := .next (shiftReg .rl .b s)

/-- `RL C` (R260). -/
def execRlC (s : State) : Result := .next (shiftReg .rl .c s)

/-- `RL D` (R260). -/
def execRlD (s : State) : Result := .next (shiftReg .rl .d s)

/-- `RL E` (R260). -/
def execRlE (s : State) : Result := .next (shiftReg .rl .e s)

/-- `RL H` (R260). -/
def execRlH (s : State) : Result := .next (shiftReg .rl .h s)

/-- `RL L` (R260). -/
def execRlL (s : State) : Result := .next (shiftReg .rl .l s)

/-- `RL (HL)` (R261). -/
def execRlAtHl (s : State) : Result := .next (shiftMem .rl s)

/-- `RL A` (R260). -/
def execRlA (s : State) : Result := .next (shiftReg .rl .a s)

/-- `RR B` (R262). -/
def execRrB (s : State) : Result := .next (shiftReg .rr .b s)

/-- `RR C` (R262). -/
def execRrC (s : State) : Result := .next (shiftReg .rr .c s)

/-- `RR D` (R262). -/
def execRrD (s : State) : Result := .next (shiftReg .rr .d s)

/-- `RR E` (R262). -/
def execRrE (s : State) : Result := .next (shiftReg .rr .e s)

/-- `RR H` (R262). -/
def execRrH (s : State) : Result := .next (shiftReg .rr .h s)

/-- `RR L` (R262). -/
def execRrL (s : State) : Result := .next (shiftReg .rr .l s)

/-- `RR (HL)` (R263). -/
def execRrAtHl (s : State) : Result := .next (shiftMem .rr s)

/-- `RR A` (R262). -/
def execRrA (s : State) : Result := .next (shiftReg .rr .a s)

/-- `SLA B` (R264). -/
def execSlaB (s : State) : Result := .next (shiftReg .sla .b s)

/-- `SLA C` (R264). -/
def execSlaC (s : State) : Result := .next (shiftReg .sla .c s)

/-- `SLA D` (R264). -/
def execSlaD (s : State) : Result := .next (shiftReg .sla .d s)

/-- `SLA E` (R264). -/
def execSlaE (s : State) : Result := .next (shiftReg .sla .e s)

/-- `SLA H` (R264). -/
def execSlaH (s : State) : Result := .next (shiftReg .sla .h s)

/-- `SLA L` (R264). -/
def execSlaL (s : State) : Result := .next (shiftReg .sla .l s)

/-- `SLA (HL)` (R265). -/
def execSlaAtHl (s : State) : Result := .next (shiftMem .sla s)

/-- `SLA A` (R264). -/
def execSlaA (s : State) : Result := .next (shiftReg .sla .a s)

/-- `SRA B` (R266). -/
def execSraB (s : State) : Result := .next (shiftReg .sra .b s)

/-- `SRA C` (R266). -/
def execSraC (s : State) : Result := .next (shiftReg .sra .c s)

/-- `SRA D` (R266). -/
def execSraD (s : State) : Result := .next (shiftReg .sra .d s)

/-- `SRA E` (R266). -/
def execSraE (s : State) : Result := .next (shiftReg .sra .e s)

/-- `SRA H` (R266). -/
def execSraH (s : State) : Result := .next (shiftReg .sra .h s)

/-- `SRA L` (R266). -/
def execSraL (s : State) : Result := .next (shiftReg .sra .l s)

/-- `SRA (HL)` (R267). -/
def execSraAtHl (s : State) : Result := .next (shiftMem .sra s)

/-- `SRA A` (R266). -/
def execSraA (s : State) : Result := .next (shiftReg .sra .a s)

/-- `SWAP B` (R268). -/
def execSwapB (s : State) : Result := .next (shiftReg .swap .b s)

/-- `SWAP C` (R268). -/
def execSwapC (s : State) : Result := .next (shiftReg .swap .c s)

/-- `SWAP D` (R268). -/
def execSwapD (s : State) : Result := .next (shiftReg .swap .d s)

/-- `SWAP E` (R268). -/
def execSwapE (s : State) : Result := .next (shiftReg .swap .e s)

/-- `SWAP H` (R268). -/
def execSwapH (s : State) : Result := .next (shiftReg .swap .h s)

/-- `SWAP L` (R268). -/
def execSwapL (s : State) : Result := .next (shiftReg .swap .l s)

/-- `SWAP (HL)` (R269). -/
def execSwapAtHl (s : State) : Result := .next (shiftMem .swap s)

/-- `SWAP A` (R268). -/
def execSwapA (s : State) : Result := .next (shiftReg .swap .a s)

/-- `SRL B` (R270). -/
def execSrlB (s : State) : Result := .next (shiftReg .srl .b s)

/-- `SRL C` (R270). -/
def execSrlC (s : State) : Result := .next (shiftReg .srl .c s)

/-- `SRL D` (R270). -/
def execSrlD (s : State) : Result := .next (shiftReg .srl .d s)

/-- `SRL E` (R270). -/
def execSrlE (s : State) : Result := .next (shiftReg .srl .e s)

/-- `SRL H` (R270). -/
def execSrlH (s : State) : Result := .next (shiftReg .srl .h s)

/-- `SRL L` (R270). -/
def execSrlL (s : State) : Result := .next (shiftReg .srl .l s)

/-- `SRL (HL)` (R271). -/
def execSrlAtHl (s : State) : Result := .next (shiftMem .srl s)

/-- `SRL A` (R270). -/
def execSrlA (s : State) : Result := .next (shiftReg .srl .a s)

/-- `BIT 0,B` (R272). -/
def execBit0B (s : State) : Result := .next (testBitReg 0 .b s)

/-- `BIT 0,C` (R272). -/
def execBit0C (s : State) : Result := .next (testBitReg 0 .c s)

/-- `BIT 0,D` (R272). -/
def execBit0D (s : State) : Result := .next (testBitReg 0 .d s)

/-- `BIT 0,E` (R272). -/
def execBit0E (s : State) : Result := .next (testBitReg 0 .e s)

/-- `BIT 0,H` (R272). -/
def execBit0H (s : State) : Result := .next (testBitReg 0 .h s)

/-- `BIT 0,L` (R272). -/
def execBit0L (s : State) : Result := .next (testBitReg 0 .l s)

/-- `BIT 0,(HL)` (R273). -/
def execBit0AtHl (s : State) : Result := .next (testBitMem 0 s)

/-- `BIT 0,A` (R272). -/
def execBit0A (s : State) : Result := .next (testBitReg 0 .a s)

/-- `BIT 1,B` (R272). -/
def execBit1B (s : State) : Result := .next (testBitReg 1 .b s)

/-- `BIT 1,C` (R272). -/
def execBit1C (s : State) : Result := .next (testBitReg 1 .c s)

/-- `BIT 1,D` (R272). -/
def execBit1D (s : State) : Result := .next (testBitReg 1 .d s)

/-- `BIT 1,E` (R272). -/
def execBit1E (s : State) : Result := .next (testBitReg 1 .e s)

/-- `BIT 1,H` (R272). -/
def execBit1H (s : State) : Result := .next (testBitReg 1 .h s)

/-- `BIT 1,L` (R272). -/
def execBit1L (s : State) : Result := .next (testBitReg 1 .l s)

/-- `BIT 1,(HL)` (R273). -/
def execBit1AtHl (s : State) : Result := .next (testBitMem 1 s)

/-- `BIT 1,A` (R272). -/
def execBit1A (s : State) : Result := .next (testBitReg 1 .a s)

/-- `BIT 2,B` (R272). -/
def execBit2B (s : State) : Result := .next (testBitReg 2 .b s)

/-- `BIT 2,C` (R272). -/
def execBit2C (s : State) : Result := .next (testBitReg 2 .c s)

/-- `BIT 2,D` (R272). -/
def execBit2D (s : State) : Result := .next (testBitReg 2 .d s)

/-- `BIT 2,E` (R272). -/
def execBit2E (s : State) : Result := .next (testBitReg 2 .e s)

/-- `BIT 2,H` (R272). -/
def execBit2H (s : State) : Result := .next (testBitReg 2 .h s)

/-- `BIT 2,L` (R272). -/
def execBit2L (s : State) : Result := .next (testBitReg 2 .l s)

/-- `BIT 2,(HL)` (R273). -/
def execBit2AtHl (s : State) : Result := .next (testBitMem 2 s)

/-- `BIT 2,A` (R272). -/
def execBit2A (s : State) : Result := .next (testBitReg 2 .a s)

/-- `BIT 3,B` (R272). -/
def execBit3B (s : State) : Result := .next (testBitReg 3 .b s)

/-- `BIT 3,C` (R272). -/
def execBit3C (s : State) : Result := .next (testBitReg 3 .c s)

/-- `BIT 3,D` (R272). -/
def execBit3D (s : State) : Result := .next (testBitReg 3 .d s)

/-- `BIT 3,E` (R272). -/
def execBit3E (s : State) : Result := .next (testBitReg 3 .e s)

/-- `BIT 3,H` (R272). -/
def execBit3H (s : State) : Result := .next (testBitReg 3 .h s)

/-- `BIT 3,L` (R272). -/
def execBit3L (s : State) : Result := .next (testBitReg 3 .l s)

/-- `BIT 3,(HL)` (R273). -/
def execBit3AtHl (s : State) : Result := .next (testBitMem 3 s)

/-- `BIT 3,A` (R272). -/
def execBit3A (s : State) : Result := .next (testBitReg 3 .a s)

/-- `BIT 4,B` (R272). -/
def execBit4B (s : State) : Result := .next (testBitReg 4 .b s)

/-- `BIT 4,C` (R272). -/
def execBit4C (s : State) : Result := .next (testBitReg 4 .c s)

/-- `BIT 4,D` (R272). -/
def execBit4D (s : State) : Result := .next (testBitReg 4 .d s)

/-- `BIT 4,E` (R272). -/
def execBit4E (s : State) : Result := .next (testBitReg 4 .e s)

/-- `BIT 4,H` (R272). -/
def execBit4H (s : State) : Result := .next (testBitReg 4 .h s)

/-- `BIT 4,L` (R272). -/
def execBit4L (s : State) : Result := .next (testBitReg 4 .l s)

/-- `BIT 4,(HL)` (R273). -/
def execBit4AtHl (s : State) : Result := .next (testBitMem 4 s)

/-- `BIT 4,A` (R272). -/
def execBit4A (s : State) : Result := .next (testBitReg 4 .a s)

/-- `BIT 5,B` (R272). -/
def execBit5B (s : State) : Result := .next (testBitReg 5 .b s)

/-- `BIT 5,C` (R272). -/
def execBit5C (s : State) : Result := .next (testBitReg 5 .c s)

/-- `BIT 5,D` (R272). -/
def execBit5D (s : State) : Result := .next (testBitReg 5 .d s)

/-- `BIT 5,E` (R272). -/
def execBit5E (s : State) : Result := .next (testBitReg 5 .e s)

/-- `BIT 5,H` (R272). -/
def execBit5H (s : State) : Result := .next (testBitReg 5 .h s)

/-- `BIT 5,L` (R272). -/
def execBit5L (s : State) : Result := .next (testBitReg 5 .l s)

/-- `BIT 5,(HL)` (R273). -/
def execBit5AtHl (s : State) : Result := .next (testBitMem 5 s)

/-- `BIT 5,A` (R272). -/
def execBit5A (s : State) : Result := .next (testBitReg 5 .a s)

/-- `BIT 6,B` (R272). -/
def execBit6B (s : State) : Result := .next (testBitReg 6 .b s)

/-- `BIT 6,C` (R272). -/
def execBit6C (s : State) : Result := .next (testBitReg 6 .c s)

/-- `BIT 6,D` (R272). -/
def execBit6D (s : State) : Result := .next (testBitReg 6 .d s)

/-- `BIT 6,E` (R272). -/
def execBit6E (s : State) : Result := .next (testBitReg 6 .e s)

/-- `BIT 6,H` (R272). -/
def execBit6H (s : State) : Result := .next (testBitReg 6 .h s)

/-- `BIT 6,L` (R272). -/
def execBit6L (s : State) : Result := .next (testBitReg 6 .l s)

/-- `BIT 6,(HL)` (R273). -/
def execBit6AtHl (s : State) : Result := .next (testBitMem 6 s)

/-- `BIT 6,A` (R272). -/
def execBit6A (s : State) : Result := .next (testBitReg 6 .a s)

/-- `BIT 7,B` (R272). -/
def execBit7B (s : State) : Result := .next (testBitReg 7 .b s)

/-- `BIT 7,C` (R272). -/
def execBit7C (s : State) : Result := .next (testBitReg 7 .c s)

/-- `BIT 7,D` (R272). -/
def execBit7D (s : State) : Result := .next (testBitReg 7 .d s)

/-- `BIT 7,E` (R272). -/
def execBit7E (s : State) : Result := .next (testBitReg 7 .e s)

/-- `BIT 7,H` (R272). -/
def execBit7H (s : State) : Result := .next (testBitReg 7 .h s)

/-- `BIT 7,L` (R272). -/
def execBit7L (s : State) : Result := .next (testBitReg 7 .l s)

/-- `BIT 7,(HL)` (R273). -/
def execBit7AtHl (s : State) : Result := .next (testBitMem 7 s)

/-- `BIT 7,A` (R272). -/
def execBit7A (s : State) : Result := .next (testBitReg 7 .a s)

/-- `RES 0,B` (R274). -/
def execRes0B (s : State) : Result := .next (resBitReg 0 .b s)

/-- `RES 0,C` (R274). -/
def execRes0C (s : State) : Result := .next (resBitReg 0 .c s)

/-- `RES 0,D` (R274). -/
def execRes0D (s : State) : Result := .next (resBitReg 0 .d s)

/-- `RES 0,E` (R274). -/
def execRes0E (s : State) : Result := .next (resBitReg 0 .e s)

/-- `RES 0,H` (R274). -/
def execRes0H (s : State) : Result := .next (resBitReg 0 .h s)

/-- `RES 0,L` (R274). -/
def execRes0L (s : State) : Result := .next (resBitReg 0 .l s)

/-- `RES 0,(HL)` (R275). -/
def execRes0AtHl (s : State) : Result := .next (resBitMem 0 s)

/-- `RES 0,A` (R274). -/
def execRes0A (s : State) : Result := .next (resBitReg 0 .a s)

/-- `RES 1,B` (R274). -/
def execRes1B (s : State) : Result := .next (resBitReg 1 .b s)

/-- `RES 1,C` (R274). -/
def execRes1C (s : State) : Result := .next (resBitReg 1 .c s)

/-- `RES 1,D` (R274). -/
def execRes1D (s : State) : Result := .next (resBitReg 1 .d s)

/-- `RES 1,E` (R274). -/
def execRes1E (s : State) : Result := .next (resBitReg 1 .e s)

/-- `RES 1,H` (R274). -/
def execRes1H (s : State) : Result := .next (resBitReg 1 .h s)

/-- `RES 1,L` (R274). -/
def execRes1L (s : State) : Result := .next (resBitReg 1 .l s)

/-- `RES 1,(HL)` (R275). -/
def execRes1AtHl (s : State) : Result := .next (resBitMem 1 s)

/-- `RES 1,A` (R274). -/
def execRes1A (s : State) : Result := .next (resBitReg 1 .a s)

/-- `RES 2,B` (R274). -/
def execRes2B (s : State) : Result := .next (resBitReg 2 .b s)

/-- `RES 2,C` (R274). -/
def execRes2C (s : State) : Result := .next (resBitReg 2 .c s)

/-- `RES 2,D` (R274). -/
def execRes2D (s : State) : Result := .next (resBitReg 2 .d s)

/-- `RES 2,E` (R274). -/
def execRes2E (s : State) : Result := .next (resBitReg 2 .e s)

/-- `RES 2,H` (R274). -/
def execRes2H (s : State) : Result := .next (resBitReg 2 .h s)

/-- `RES 2,L` (R274). -/
def execRes2L (s : State) : Result := .next (resBitReg 2 .l s)

/-- `RES 2,(HL)` (R275). -/
def execRes2AtHl (s : State) : Result := .next (resBitMem 2 s)

/-- `RES 2,A` (R274). -/
def execRes2A (s : State) : Result := .next (resBitReg 2 .a s)

/-- `RES 3,B` (R274). -/
def execRes3B (s : State) : Result := .next (resBitReg 3 .b s)

/-- `RES 3,C` (R274). -/
def execRes3C (s : State) : Result := .next (resBitReg 3 .c s)

/-- `RES 3,D` (R274). -/
def execRes3D (s : State) : Result := .next (resBitReg 3 .d s)

/-- `RES 3,E` (R274). -/
def execRes3E (s : State) : Result := .next (resBitReg 3 .e s)

/-- `RES 3,H` (R274). -/
def execRes3H (s : State) : Result := .next (resBitReg 3 .h s)

/-- `RES 3,L` (R274). -/
def execRes3L (s : State) : Result := .next (resBitReg 3 .l s)

/-- `RES 3,(HL)` (R275). -/
def execRes3AtHl (s : State) : Result := .next (resBitMem 3 s)

/-- `RES 3,A` (R274). -/
def execRes3A (s : State) : Result := .next (resBitReg 3 .a s)

/-- `RES 4,B` (R274). -/
def execRes4B (s : State) : Result := .next (resBitReg 4 .b s)

/-- `RES 4,C` (R274). -/
def execRes4C (s : State) : Result := .next (resBitReg 4 .c s)

/-- `RES 4,D` (R274). -/
def execRes4D (s : State) : Result := .next (resBitReg 4 .d s)

/-- `RES 4,E` (R274). -/
def execRes4E (s : State) : Result := .next (resBitReg 4 .e s)

/-- `RES 4,H` (R274). -/
def execRes4H (s : State) : Result := .next (resBitReg 4 .h s)

/-- `RES 4,L` (R274). -/
def execRes4L (s : State) : Result := .next (resBitReg 4 .l s)

/-- `RES 4,(HL)` (R275). -/
def execRes4AtHl (s : State) : Result := .next (resBitMem 4 s)

/-- `RES 4,A` (R274). -/
def execRes4A (s : State) : Result := .next (resBitReg 4 .a s)

/-- `RES 5,B` (R274). -/
def execRes5B (s : State) : Result := .next (resBitReg 5 .b s)

/-- `RES 5,C` (R274). -/
def execRes5C (s : State) : Result := .next (resBitReg 5 .c s)

/-- `RES 5,D` (R274). -/
def execRes5D (s : State) : Result := .next (resBitReg 5 .d s)

/-- `RES 5,E` (R274). -/
def execRes5E (s : State) : Result := .next (resBitReg 5 .e s)

/-- `RES 5,H` (R274). -/
def execRes5H (s : State) : Result := .next (resBitReg 5 .h s)

/-- `RES 5,L` (R274). -/
def execRes5L (s : State) : Result := .next (resBitReg 5 .l s)

/-- `RES 5,(HL)` (R275). -/
def execRes5AtHl (s : State) : Result := .next (resBitMem 5 s)

/-- `RES 5,A` (R274). -/
def execRes5A (s : State) : Result := .next (resBitReg 5 .a s)

/-- `RES 6,B` (R274). -/
def execRes6B (s : State) : Result := .next (resBitReg 6 .b s)

/-- `RES 6,C` (R274). -/
def execRes6C (s : State) : Result := .next (resBitReg 6 .c s)

/-- `RES 6,D` (R274). -/
def execRes6D (s : State) : Result := .next (resBitReg 6 .d s)

/-- `RES 6,E` (R274). -/
def execRes6E (s : State) : Result := .next (resBitReg 6 .e s)

/-- `RES 6,H` (R274). -/
def execRes6H (s : State) : Result := .next (resBitReg 6 .h s)

/-- `RES 6,L` (R274). -/
def execRes6L (s : State) : Result := .next (resBitReg 6 .l s)

/-- `RES 6,(HL)` (R275). -/
def execRes6AtHl (s : State) : Result := .next (resBitMem 6 s)

/-- `RES 6,A` (R274). -/
def execRes6A (s : State) : Result := .next (resBitReg 6 .a s)

/-- `RES 7,B` (R274). -/
def execRes7B (s : State) : Result := .next (resBitReg 7 .b s)

/-- `RES 7,C` (R274). -/
def execRes7C (s : State) : Result := .next (resBitReg 7 .c s)

/-- `RES 7,D` (R274). -/
def execRes7D (s : State) : Result := .next (resBitReg 7 .d s)

/-- `RES 7,E` (R274). -/
def execRes7E (s : State) : Result := .next (resBitReg 7 .e s)

/-- `RES 7,H` (R274). -/
def execRes7H (s : State) : Result := .next (resBitReg 7 .h s)

/-- `RES 7,L` (R274). -/
def execRes7L (s : State) : Result := .next (resBitReg 7 .l s)

/-- `RES 7,(HL)` (R275). -/
def execRes7AtHl (s : State) : Result := .next (resBitMem 7 s)

/-- `RES 7,A` (R274). -/
def execRes7A (s : State) : Result := .next (resBitReg 7 .a s)

/-- `SET 0,B` (R276). -/
def execSet0B (s : State) : Result := .next (setBitReg 0 .b s)

/-- `SET 0,C` (R276). -/
def execSet0C (s : State) : Result := .next (setBitReg 0 .c s)

/-- `SET 0,D` (R276). -/
def execSet0D (s : State) : Result := .next (setBitReg 0 .d s)

/-- `SET 0,E` (R276). -/
def execSet0E (s : State) : Result := .next (setBitReg 0 .e s)

/-- `SET 0,H` (R276). -/
def execSet0H (s : State) : Result := .next (setBitReg 0 .h s)

/-- `SET 0,L` (R276). -/
def execSet0L (s : State) : Result := .next (setBitReg 0 .l s)

/-- `SET 0,(HL)` (R277). -/
def execSet0AtHl (s : State) : Result := .next (setBitMem 0 s)

/-- `SET 0,A` (R276). -/
def execSet0A (s : State) : Result := .next (setBitReg 0 .a s)

/-- `SET 1,B` (R276). -/
def execSet1B (s : State) : Result := .next (setBitReg 1 .b s)

/-- `SET 1,C` (R276). -/
def execSet1C (s : State) : Result := .next (setBitReg 1 .c s)

/-- `SET 1,D` (R276). -/
def execSet1D (s : State) : Result := .next (setBitReg 1 .d s)

/-- `SET 1,E` (R276). -/
def execSet1E (s : State) : Result := .next (setBitReg 1 .e s)

/-- `SET 1,H` (R276). -/
def execSet1H (s : State) : Result := .next (setBitReg 1 .h s)

/-- `SET 1,L` (R276). -/
def execSet1L (s : State) : Result := .next (setBitReg 1 .l s)

/-- `SET 1,(HL)` (R277). -/
def execSet1AtHl (s : State) : Result := .next (setBitMem 1 s)

/-- `SET 1,A` (R276). -/
def execSet1A (s : State) : Result := .next (setBitReg 1 .a s)

/-- `SET 2,B` (R276). -/
def execSet2B (s : State) : Result := .next (setBitReg 2 .b s)

/-- `SET 2,C` (R276). -/
def execSet2C (s : State) : Result := .next (setBitReg 2 .c s)

/-- `SET 2,D` (R276). -/
def execSet2D (s : State) : Result := .next (setBitReg 2 .d s)

/-- `SET 2,E` (R276). -/
def execSet2E (s : State) : Result := .next (setBitReg 2 .e s)

/-- `SET 2,H` (R276). -/
def execSet2H (s : State) : Result := .next (setBitReg 2 .h s)

/-- `SET 2,L` (R276). -/
def execSet2L (s : State) : Result := .next (setBitReg 2 .l s)

/-- `SET 2,(HL)` (R277). -/
def execSet2AtHl (s : State) : Result := .next (setBitMem 2 s)

/-- `SET 2,A` (R276). -/
def execSet2A (s : State) : Result := .next (setBitReg 2 .a s)

/-- `SET 3,B` (R276). -/
def execSet3B (s : State) : Result := .next (setBitReg 3 .b s)

/-- `SET 3,C` (R276). -/
def execSet3C (s : State) : Result := .next (setBitReg 3 .c s)

/-- `SET 3,D` (R276). -/
def execSet3D (s : State) : Result := .next (setBitReg 3 .d s)

/-- `SET 3,E` (R276). -/
def execSet3E (s : State) : Result := .next (setBitReg 3 .e s)

/-- `SET 3,H` (R276). -/
def execSet3H (s : State) : Result := .next (setBitReg 3 .h s)

/-- `SET 3,L` (R276). -/
def execSet3L (s : State) : Result := .next (setBitReg 3 .l s)

/-- `SET 3,(HL)` (R277). -/
def execSet3AtHl (s : State) : Result := .next (setBitMem 3 s)

/-- `SET 3,A` (R276). -/
def execSet3A (s : State) : Result := .next (setBitReg 3 .a s)

/-- `SET 4,B` (R276). -/
def execSet4B (s : State) : Result := .next (setBitReg 4 .b s)

/-- `SET 4,C` (R276). -/
def execSet4C (s : State) : Result := .next (setBitReg 4 .c s)

/-- `SET 4,D` (R276). -/
def execSet4D (s : State) : Result := .next (setBitReg 4 .d s)

/-- `SET 4,E` (R276). -/
def execSet4E (s : State) : Result := .next (setBitReg 4 .e s)

/-- `SET 4,H` (R276). -/
def execSet4H (s : State) : Result := .next (setBitReg 4 .h s)

/-- `SET 4,L` (R276). -/
def execSet4L (s : State) : Result := .next (setBitReg 4 .l s)

/-- `SET 4,(HL)` (R277). -/
def execSet4AtHl (s : State) : Result := .next (setBitMem 4 s)

/-- `SET 4,A` (R276). -/
def execSet4A (s : State) : Result := .next (setBitReg 4 .a s)

/-- `SET 5,B` (R276). -/
def execSet5B (s : State) : Result := .next (setBitReg 5 .b s)

/-- `SET 5,C` (R276). -/
def execSet5C (s : State) : Result := .next (setBitReg 5 .c s)

/-- `SET 5,D` (R276). -/
def execSet5D (s : State) : Result := .next (setBitReg 5 .d s)

/-- `SET 5,E` (R276). -/
def execSet5E (s : State) : Result := .next (setBitReg 5 .e s)

/-- `SET 5,H` (R276). -/
def execSet5H (s : State) : Result := .next (setBitReg 5 .h s)

/-- `SET 5,L` (R276). -/
def execSet5L (s : State) : Result := .next (setBitReg 5 .l s)

/-- `SET 5,(HL)` (R277). -/
def execSet5AtHl (s : State) : Result := .next (setBitMem 5 s)

/-- `SET 5,A` (R276). -/
def execSet5A (s : State) : Result := .next (setBitReg 5 .a s)

/-- `SET 6,B` (R276). -/
def execSet6B (s : State) : Result := .next (setBitReg 6 .b s)

/-- `SET 6,C` (R276). -/
def execSet6C (s : State) : Result := .next (setBitReg 6 .c s)

/-- `SET 6,D` (R276). -/
def execSet6D (s : State) : Result := .next (setBitReg 6 .d s)

/-- `SET 6,E` (R276). -/
def execSet6E (s : State) : Result := .next (setBitReg 6 .e s)

/-- `SET 6,H` (R276). -/
def execSet6H (s : State) : Result := .next (setBitReg 6 .h s)

/-- `SET 6,L` (R276). -/
def execSet6L (s : State) : Result := .next (setBitReg 6 .l s)

/-- `SET 6,(HL)` (R277). -/
def execSet6AtHl (s : State) : Result := .next (setBitMem 6 s)

/-- `SET 6,A` (R276). -/
def execSet6A (s : State) : Result := .next (setBitReg 6 .a s)

/-- `SET 7,B` (R276). -/
def execSet7B (s : State) : Result := .next (setBitReg 7 .b s)

/-- `SET 7,C` (R276). -/
def execSet7C (s : State) : Result := .next (setBitReg 7 .c s)

/-- `SET 7,D` (R276). -/
def execSet7D (s : State) : Result := .next (setBitReg 7 .d s)

/-- `SET 7,E` (R276). -/
def execSet7E (s : State) : Result := .next (setBitReg 7 .e s)

/-- `SET 7,H` (R276). -/
def execSet7H (s : State) : Result := .next (setBitReg 7 .h s)

/-- `SET 7,L` (R276). -/
def execSet7L (s : State) : Result := .next (setBitReg 7 .l s)

/-- `SET 7,(HL)` (R277). -/
def execSet7AtHl (s : State) : Result := .next (setBitMem 7 s)

/-- `SET 7,A` (R276). -/
def execSet7A (s : State) : Result := .next (setBitReg 7 .a s)

end Sys2Proof.Machine
end

