-- ==== Sys2Proof/Machine/Misc.lean ====
section
/-! DEFINITION. NOP, the gap bytes, the illegal bytes and the 0xCB cell (R280 to R288): the shared operations, then one
meaning per instruction. -/

namespace Sys2Proof.Machine

/-- NOP (R280). -/
def noOperation (s : State) : State := s.retire 1 1

/-- A primary entry that still holds the unknown-opcode handler (R106): the gap bytes (R281 to R285) and the illegal
bytes (R286). Nothing is popped or read, and nothing halts. -/
def unknownPrimary (byte : Byte) (s : State) : State := s.unknown .primary byte

/-- The handler of a secondary entry, read from the fields of its sub-opcode (R85): the group `s[7:6]`, the shift
function or bit index `s[5:3]`, and the operand `s[2:0]`. -/
def secondaryHandler (sub : Byte) (s : State) : State :=
  let y := sub.toNat / 8 % 8
  match sub.toNat / 64, reg8Of (sub.toNat % 8) with
  | 0, some r => shiftReg (shiftOpOf y) r s
  | 0, none => shiftMem (shiftOpOf y) s
  | 1, some r => testBitReg y r s
  | 1, none => testBitMem y s
  | 2, some r => resBitReg y r s
  | 2, none => resBitMem y s
  | _, some r => setBitReg y r s
  | _, none => setBitMem y s

/-- What the engine does at the 0xCB byte (R100, R103, R288): fetch the sub-opcode, then run its entry of the secondary
table, or the unknown-opcode handler. The 0xCB byte itself adds no length and no cost. -/
def dispatchCb (s : State) : State :=
  let sub := s.readByte (s.pc + 1)
  let s := { s with opcode := sub }
  if populated s.build.populated (.cb, sub) then secondaryHandler sub { s with unknownCount := 0 }
  else s.unknown .cb sub

/-- `NOP` (R280). -/
def execNop (s : State) : Result := .next (noOperation s)

/-- `STOP` (R282). -/
def execStop (s : State) : Result := .next (unknownPrimary 0x10 s)

/-- `HALT` (R281). -/
def execHalt (s : State) : Result := .next (unknownPrimary 0x76 s)

/-- `PREFIX CB` (R103). -/
def execPrefixCb (s : State) : Result := .next (dispatchCb s)

/-- `ILLEGAL D3` (R286). -/
def execIllegalD3 (s : State) : Result := .next (unknownPrimary 0xD3 s)

/-- `RETI` (R285). -/
def execReti (s : State) : Result := .next (unknownPrimary 0xD9 s)

/-- `ILLEGAL DB` (R286). -/
def execIllegalDB (s : State) : Result := .next (unknownPrimary 0xDB s)

/-- `ILLEGAL DD` (R286). -/
def execIllegalDD (s : State) : Result := .next (unknownPrimary 0xDD s)

/-- `ILLEGAL E3` (R286). -/
def execIllegalE3 (s : State) : Result := .next (unknownPrimary 0xE3 s)

/-- `ILLEGAL E4` (R286). -/
def execIllegalE4 (s : State) : Result := .next (unknownPrimary 0xE4 s)

/-- `ILLEGAL EB` (R286). -/
def execIllegalEB (s : State) : Result := .next (unknownPrimary 0xEB s)

/-- `ILLEGAL EC` (R286). -/
def execIllegalEC (s : State) : Result := .next (unknownPrimary 0xEC s)

/-- `ILLEGAL ED` (R286). -/
def execIllegalED (s : State) : Result := .next (unknownPrimary 0xED s)

/-- `DI` (R283). -/
def execDi (s : State) : Result := .next (unknownPrimary 0xF3 s)

/-- `ILLEGAL F4` (R286). -/
def execIllegalF4 (s : State) : Result := .next (unknownPrimary 0xF4 s)

/-- `EI` (R284). -/
def execEi (s : State) : Result := .next (unknownPrimary 0xFB s)

/-- `ILLEGAL FC` (R286). -/
def execIllegalFC (s : State) : Result := .next (unknownPrimary 0xFC s)

/-- `ILLEGAL FD` (R286). -/
def execIllegalFD (s : State) : Result := .next (unknownPrimary 0xFD s)

end Sys2Proof.Machine
end

