-- ==== Sys2Proof/WellFormed.lean ====
section
/-! DEFINITION. Which terms of `Instr` are whole instructions. Operands are bit vectors of the width the encoding gives
them (R81), so no operand value is out of range. The one term that is no whole instruction is the 0xCB byte by itself:
it selects the secondary table and has no length, cost or handler of its own (R103, R288). -/

namespace Sys2Proof

/-- The term is a whole instruction: not the 0xCB byte with its second byte missing (R288). -/
def Instr.wellFormed (i : Instr) : Bool :=
  match i with
  | .prefixCb => false
  | _ => true

end Sys2Proof
end

