-- ==== Sys2Proof/Decode.lean ====
section
/-! DEFINITION. The decoder and, after it, the encoder. The decoder is the spec's own: a 256-entry primary map and a
256-entry map behind the 0xCB byte (R86, R87, R88, R93), each written as its sixteen rows of sixteen cells, indexed by
the byte's two nibbles. It is total: a byte string it cannot read is rejected by name (`DecodeError`). -/

namespace Sys2Proof

/-- A cell of the primary map with the format of R81: no operand byte, one, a little-endian word, or the 0xCB byte. -/
inductive Entry where
  | f1 (i : Instr)
  | f2 (mk : Byte → Instr)
  | f3 (mk : Word → Instr)
  | cbPrefix

/-- Why a byte string is no instruction. -/
inductive DecodeError where
  /-- There is no byte to read. -/
  | noBytes
  /-- The opcode byte is there, but not all of the operand bytes R81 gives it. -/
  | operandMissing (opcode : Byte)
deriving DecidableEq, Repr

/-- Row 0x of the primary map (R87). -/
def primaryRow0 : List Entry :=
  [.f1 .nop, .f3 .ldBcD16, .f1 .ldAtBcA, .f1 .incBc, .f1 .incB, .f1 .decB, .f2 .ldBD8, .f1 .rlca,
   .f3 .ldAtA16Sp, .f1 .addHlBc, .f1 .ldAAtBc, .f1 .decBc, .f1 .incC, .f1 .decC, .f2 .ldCD8, .f1 .rrca]

/-- Row 1x of the primary map (R87). -/
def primaryRow1 : List Entry :=
  [.f1 .stop, .f3 .ldDeD16, .f1 .ldAtDeA, .f1 .incDe, .f1 .incD, .f1 .decD, .f2 .ldDD8, .f1 .rla,
   .f2 .jrE8, .f1 .addHlDe, .f1 .ldAAtDe, .f1 .decDe, .f1 .incE, .f1 .decE, .f2 .ldED8, .f1 .rra]

/-- Row 2x of the primary map (R87). -/
def primaryRow2 : List Entry :=
  [.f2 .jrNzE8, .f3 .ldHlD16, .f1 .ldAtHlIncA, .f1 .incHl, .f1 .incH, .f1 .decH, .f2 .ldHD8, .f1 .daa,
   .f2 .jrZE8, .f1 .addHlHl, .f1 .ldAAtHlInc, .f1 .decHl, .f1 .incL, .f1 .decL, .f2 .ldLD8, .f1 .cpl]

/-- Row 3x of the primary map (R87). -/
def primaryRow3 : List Entry :=
  [.f2 .jrNcE8, .f3 .ldSpD16, .f1 .ldAtHlDecA, .f1 .incSp, .f1 .incAtHl, .f1 .decAtHl, .f2 .ldAtHlD8, .f1 .scf,
   .f2 .jrCE8, .f1 .addHlSp, .f1 .ldAAtHlDec, .f1 .decSp, .f1 .incA, .f1 .decA, .f2 .ldAD8, .f1 .ccf]

/-- Row 4x of the primary map (R87). -/
def primaryRow4 : List Entry :=
  [.f1 .ldBB, .f1 .ldBC, .f1 .ldBD, .f1 .ldBE, .f1 .ldBH, .f1 .ldBL, .f1 .ldBAtHl, .f1 .ldBA,
   .f1 .ldCB, .f1 .ldCC, .f1 .ldCD, .f1 .ldCE, .f1 .ldCH, .f1 .ldCL, .f1 .ldCAtHl, .f1 .ldCA]

/-- Row 5x of the primary map (R87). -/
def primaryRow5 : List Entry :=
  [.f1 .ldDB, .f1 .ldDC, .f1 .ldDD, .f1 .ldDE, .f1 .ldDH, .f1 .ldDL, .f1 .ldDAtHl, .f1 .ldDA,
   .f1 .ldEB, .f1 .ldEC, .f1 .ldED, .f1 .ldEE, .f1 .ldEH, .f1 .ldEL, .f1 .ldEAtHl, .f1 .ldEA]

/-- Row 6x of the primary map (R87). -/
def primaryRow6 : List Entry :=
  [.f1 .ldHB, .f1 .ldHC, .f1 .ldHD, .f1 .ldHE, .f1 .ldHH, .f1 .ldHL, .f1 .ldHAtHl, .f1 .ldHA,
   .f1 .ldLB, .f1 .ldLC, .f1 .ldLD, .f1 .ldLE, .f1 .ldLH, .f1 .ldLL, .f1 .ldLAtHl, .f1 .ldLA]

/-- Row 7x of the primary map (R87). -/
def primaryRow7 : List Entry :=
  [.f1 .ldAtHlB, .f1 .ldAtHlC, .f1 .ldAtHlD, .f1 .ldAtHlE, .f1 .ldAtHlH, .f1 .ldAtHlL, .f1 .halt, .f1 .ldAtHlA,
   .f1 .ldAB, .f1 .ldAC, .f1 .ldAD, .f1 .ldAE, .f1 .ldAH, .f1 .ldAL, .f1 .ldAAtHl, .f1 .ldAA]

/-- Row 8x of the primary map (R87). -/
def primaryRow8 : List Entry :=
  [.f1 .addAB, .f1 .addAC, .f1 .addAD, .f1 .addAE, .f1 .addAH, .f1 .addAL, .f1 .addAAtHl, .f1 .addAA,
   .f1 .adcAB, .f1 .adcAC, .f1 .adcAD, .f1 .adcAE, .f1 .adcAH, .f1 .adcAL, .f1 .adcAAtHl, .f1 .adcAA]

/-- Row 9x of the primary map (R87). -/
def primaryRow9 : List Entry :=
  [.f1 .subB, .f1 .subC, .f1 .subD, .f1 .subE, .f1 .subH, .f1 .subL, .f1 .subAtHl, .f1 .subA,
   .f1 .sbcAB, .f1 .sbcAC, .f1 .sbcAD, .f1 .sbcAE, .f1 .sbcAH, .f1 .sbcAL, .f1 .sbcAAtHl, .f1 .sbcAA]

/-- Row Ax of the primary map (R87). -/
def primaryRowA : List Entry :=
  [.f1 .andB, .f1 .andC, .f1 .andD, .f1 .andE, .f1 .andH, .f1 .andL, .f1 .andAtHl, .f1 .andA,
   .f1 .xorB, .f1 .xorC, .f1 .xorD, .f1 .xorE, .f1 .xorH, .f1 .xorL, .f1 .xorAtHl, .f1 .xorA]

/-- Row Bx of the primary map (R87). -/
def primaryRowB : List Entry :=
  [.f1 .orB, .f1 .orC, .f1 .orD, .f1 .orE, .f1 .orH, .f1 .orL, .f1 .orAtHl, .f1 .orA,
   .f1 .cpB, .f1 .cpC, .f1 .cpD, .f1 .cpE, .f1 .cpH, .f1 .cpL, .f1 .cpAtHl, .f1 .cpA]

/-- Row Cx of the primary map (R87). -/
def primaryRowC : List Entry :=
  [.f1 .retNz, .f1 .popBc, .f3 .jpNzA16, .f3 .jpA16, .f3 .callNzA16, .f1 .pushBc, .f2 .addAD8, .f1 .rst00,
   .f1 .retZ, .f1 .ret, .f3 .jpZA16, .cbPrefix, .f3 .callZA16, .f3 .callA16, .f2 .adcAD8, .f1 .rst08]

/-- Row Dx of the primary map (R87). -/
def primaryRowD : List Entry :=
  [.f1 .retNc, .f1 .popDe, .f3 .jpNcA16, .f1 .illegalD3, .f3 .callNcA16, .f1 .pushDe, .f2 .subD8, .f1 .rst10,
   .f1 .retC, .f1 .reti, .f3 .jpCA16, .f1 .illegalDB, .f3 .callCA16, .f1 .illegalDD, .f2 .sbcAD8, .f1 .rst18]

/-- Row Ex of the primary map (R87). -/
def primaryRowE : List Entry :=
  [.f2 .ldhAtA8A, .f1 .popHl, .f1 .ldAtCA, .f1 .illegalE3, .f1 .illegalE4, .f1 .pushHl, .f2 .andD8, .f1 .rst20,
   .f2 .addSpE8, .f1 .jpHl, .f3 .ldAtA16A, .f1 .illegalEB, .f1 .illegalEC, .f1 .illegalED, .f2 .xorD8, .f1 .rst28]

/-- Row Fx of the primary map (R87). -/
def primaryRowF : List Entry :=
  [.f2 .ldhAAtA8, .f1 .popAf, .f1 .ldAAtC, .f1 .di, .f1 .illegalF4, .f1 .pushAf, .f2 .orD8, .f1 .rst30,
   .f2 .ldHlSpE8, .f1 .ldSpHl, .f3 .ldAAtA16, .f1 .ei, .f1 .illegalFC, .f1 .illegalFD, .f2 .cpD8, .f1 .rst38]

/-- The primary map (R87): row = high nibble, cell = low nibble. -/
def primaryMap : List (List Entry) :=
  [primaryRow0, primaryRow1, primaryRow2, primaryRow3, primaryRow4, primaryRow5, primaryRow6, primaryRow7,
   primaryRow8, primaryRow9, primaryRowA, primaryRowB, primaryRowC, primaryRowD, primaryRowE, primaryRowF]

/-- Row 0x of the secondary map (R88). -/
def secondaryRow0 : List Instr :=
  [.rlcB, .rlcC, .rlcD, .rlcE, .rlcH, .rlcL, .rlcAtHl, .rlcA,
   .rrcB, .rrcC, .rrcD, .rrcE, .rrcH, .rrcL, .rrcAtHl, .rrcA]

/-- Row 1x of the secondary map (R88). -/
def secondaryRow1 : List Instr :=
  [.rlB, .rlC, .rlD, .rlE, .rlH, .rlL, .rlAtHl, .rlA,
   .rrB, .rrC, .rrD, .rrE, .rrH, .rrL, .rrAtHl, .rrA]

/-- Row 2x of the secondary map (R88). -/
def secondaryRow2 : List Instr :=
  [.slaB, .slaC, .slaD, .slaE, .slaH, .slaL, .slaAtHl, .slaA,
   .sraB, .sraC, .sraD, .sraE, .sraH, .sraL, .sraAtHl, .sraA]

/-- Row 3x of the secondary map (R88). -/
def secondaryRow3 : List Instr :=
  [.swapB, .swapC, .swapD, .swapE, .swapH, .swapL, .swapAtHl, .swapA,
   .srlB, .srlC, .srlD, .srlE, .srlH, .srlL, .srlAtHl, .srlA]

/-- Row 4x of the secondary map (R88). -/
def secondaryRow4 : List Instr :=
  [.bit0B, .bit0C, .bit0D, .bit0E, .bit0H, .bit0L, .bit0AtHl, .bit0A,
   .bit1B, .bit1C, .bit1D, .bit1E, .bit1H, .bit1L, .bit1AtHl, .bit1A]

/-- Row 5x of the secondary map (R88). -/
def secondaryRow5 : List Instr :=
  [.bit2B, .bit2C, .bit2D, .bit2E, .bit2H, .bit2L, .bit2AtHl, .bit2A,
   .bit3B, .bit3C, .bit3D, .bit3E, .bit3H, .bit3L, .bit3AtHl, .bit3A]

/-- Row 6x of the secondary map (R88). -/
def secondaryRow6 : List Instr :=
  [.bit4B, .bit4C, .bit4D, .bit4E, .bit4H, .bit4L, .bit4AtHl, .bit4A,
   .bit5B, .bit5C, .bit5D, .bit5E, .bit5H, .bit5L, .bit5AtHl, .bit5A]

/-- Row 7x of the secondary map (R88). -/
def secondaryRow7 : List Instr :=
  [.bit6B, .bit6C, .bit6D, .bit6E, .bit6H, .bit6L, .bit6AtHl, .bit6A,
   .bit7B, .bit7C, .bit7D, .bit7E, .bit7H, .bit7L, .bit7AtHl, .bit7A]

/-- Row 8x of the secondary map (R88). -/
def secondaryRow8 : List Instr :=
  [.res0B, .res0C, .res0D, .res0E, .res0H, .res0L, .res0AtHl, .res0A,
   .res1B, .res1C, .res1D, .res1E, .res1H, .res1L, .res1AtHl, .res1A]

/-- Row 9x of the secondary map (R88). -/
def secondaryRow9 : List Instr :=
  [.res2B, .res2C, .res2D, .res2E, .res2H, .res2L, .res2AtHl, .res2A,
   .res3B, .res3C, .res3D, .res3E, .res3H, .res3L, .res3AtHl, .res3A]

/-- Row Ax of the secondary map (R88). -/
def secondaryRowA : List Instr :=
  [.res4B, .res4C, .res4D, .res4E, .res4H, .res4L, .res4AtHl, .res4A,
   .res5B, .res5C, .res5D, .res5E, .res5H, .res5L, .res5AtHl, .res5A]

/-- Row Bx of the secondary map (R88). -/
def secondaryRowB : List Instr :=
  [.res6B, .res6C, .res6D, .res6E, .res6H, .res6L, .res6AtHl, .res6A,
   .res7B, .res7C, .res7D, .res7E, .res7H, .res7L, .res7AtHl, .res7A]

/-- Row Cx of the secondary map (R88). -/
def secondaryRowC : List Instr :=
  [.set0B, .set0C, .set0D, .set0E, .set0H, .set0L, .set0AtHl, .set0A,
   .set1B, .set1C, .set1D, .set1E, .set1H, .set1L, .set1AtHl, .set1A]

/-- Row Dx of the secondary map (R88). -/
def secondaryRowD : List Instr :=
  [.set2B, .set2C, .set2D, .set2E, .set2H, .set2L, .set2AtHl, .set2A,
   .set3B, .set3C, .set3D, .set3E, .set3H, .set3L, .set3AtHl, .set3A]

/-- Row Ex of the secondary map (R88). -/
def secondaryRowE : List Instr :=
  [.set4B, .set4C, .set4D, .set4E, .set4H, .set4L, .set4AtHl, .set4A,
   .set5B, .set5C, .set5D, .set5E, .set5H, .set5L, .set5AtHl, .set5A]

/-- Row Fx of the secondary map (R88). -/
def secondaryRowF : List Instr :=
  [.set6B, .set6C, .set6D, .set6E, .set6H, .set6L, .set6AtHl, .set6A,
   .set7B, .set7C, .set7D, .set7E, .set7H, .set7L, .set7AtHl, .set7A]

/-- The secondary map (R88): row = high nibble, cell = low nibble. -/
def secondaryMap : List (List Instr) :=
  [secondaryRow0, secondaryRow1, secondaryRow2, secondaryRow3, secondaryRow4, secondaryRow5, secondaryRow6, secondaryRow7,
   secondaryRow8, secondaryRow9, secondaryRowA, secondaryRowB, secondaryRowC, secondaryRowD, secondaryRowE, secondaryRowF]

/-- The cell of a map of sixteen rows of sixteen that a byte selects. -/
def cellOf {α : Type} (map : List (List α)) (other : α) (b : Byte) : α :=
  (map.getD (b.toNat / 16) []).getD (b.toNat % 16) other

/-- The primary map's cell for an opcode byte (R87, R102). -/
def primaryEntry (b : Byte) : Entry := cellOf primaryMap .cbPrefix b

/-- The secondary map's cell for a sub-opcode byte (R88, R103). -/
def secondaryInstr (b : Byte) : Instr := cellOf secondaryMap .prefixCb b

/-- The byte that selects the secondary table (R103). -/
def cbByte : Byte := 0xCB

/-- How many bytes an instruction with this opcode byte has (R80, R81). -/
def Entry.byteLength : Entry → Nat
  | .f1 _ => 1
  | .f2 _ => 2
  | .f3 _ => 3
  | .cbPrefix => 2

/-- The instruction an opcode byte and the two bytes after it stand for (R92, R93). Every three bytes stand for one: what
the map calls illegal or a gap has its own constructor. Operand words are little-endian. -/
def decodeBytes (b0 b1 b2 : Byte) : Instr :=
  match primaryEntry b0 with
  | .f1 i => i
  | .f2 mk => mk b1
  | .f3 mk => mk (Machine.mkWord b2 b1)
  | .cbPrefix => secondaryInstr b1

/-- Read one instruction off the front of a byte string and give back the rest (R80, R93). The 0xCB byte with nothing
after it is the cell PREFIX CB by itself (R288). -/
def decode (bytes : List Byte) : Except DecodeError (Instr × List Byte) :=
  match bytes with
  | [] => .error .noBytes
  | b0 :: rest =>
    match primaryEntry b0, rest with
    | .f1 i, rest => .ok (i, rest)
    | .f2 mk, d :: rest => .ok (mk d, rest)
    | .f2 _, [] => .error (.operandMissing b0)
    | .f3 mk, l :: h :: rest => .ok (mk (Machine.mkWord h l), rest)
    | .f3 _, _ => .error (.operandMissing b0)
    | .cbPrefix, b1 :: rest => .ok (secondaryInstr b1, rest)
    | .cbPrefix, [] => .ok (.prefixCb, [])

/-- The bytes of a table word in the order the hardware stores them: bits 7:0 are the first byte. -/
def tableBytes : Nat → Nat → List Byte
  | 0, _ => []
  | n + 1, w => BitVec.ofNat 8 w :: tableBytes n (w / 256)

/-- The instruction the decoder reads from a table word of `nbits` bits. Operand bytes the word does not reach are 0. -/
def decodeTableWord (nbits w : Nat) : Option Instr :=
  match decode (tableBytes (nbits / 8) w) with
  | .ok (i, _) => some i
  | .error _ =>
    match decode (tableBytes (nbits / 8) w ++ [0, 0]) with
    | .ok (i, _) => some i
    | .error _ => none

/-- The bytes of an instruction with a word operand (format F3): the low byte first. -/
def bytesF3 (opcode : Byte) (d : Word) : List Byte := [opcode, Machine.loByte d, Machine.hiByte d]

/-- The bytes of an instruction, in increasing address order (R80, R81), written from the encodings of the rules. -/
def encode (i : Instr) : List Byte :=
  match i with
  | .nop => [0x00]
  | .ldBcD16 d => bytesF3 0x01 d
  | .ldAtBcA => [0x02]
  | .incBc => [0x03]
  | .incB => [0x04]
  | .decB => [0x05]
  | .ldBD8 d => [0x06, d]
  | .rlca => [0x07]
  | .ldAtA16Sp d => bytesF3 0x08 d
  | .addHlBc => [0x09]
  | .ldAAtBc => [0x0A]
  | .decBc => [0x0B]
  | .incC => [0x0C]
  | .decC => [0x0D]
  | .ldCD8 d => [0x0E, d]
  | .rrca => [0x0F]
  | .stop => [0x10]
  | .ldDeD16 d => bytesF3 0x11 d
  | .ldAtDeA => [0x12]
  | .incDe => [0x13]
  | .incD => [0x14]
  | .decD => [0x15]
  | .ldDD8 d => [0x16, d]
  | .rla => [0x17]
  | .jrE8 d => [0x18, d]
  | .addHlDe => [0x19]
  | .ldAAtDe => [0x1A]
  | .decDe => [0x1B]
  | .incE => [0x1C]
  | .decE => [0x1D]
  | .ldED8 d => [0x1E, d]
  | .rra => [0x1F]
  | .jrNzE8 d => [0x20, d]
  | .ldHlD16 d => bytesF3 0x21 d
  | .ldAtHlIncA => [0x22]
  | .incHl => [0x23]
  | .incH => [0x24]
  | .decH => [0x25]
  | .ldHD8 d => [0x26, d]
  | .daa => [0x27]
  | .jrZE8 d => [0x28, d]
  | .addHlHl => [0x29]
  | .ldAAtHlInc => [0x2A]
  | .decHl => [0x2B]
  | .incL => [0x2C]
  | .decL => [0x2D]
  | .ldLD8 d => [0x2E, d]
  | .cpl => [0x2F]
  | .jrNcE8 d => [0x30, d]
  | .ldSpD16 d => bytesF3 0x31 d
  | .ldAtHlDecA => [0x32]
  | .incSp => [0x33]
  | .incAtHl => [0x34]
  | .decAtHl => [0x35]
  | .ldAtHlD8 d => [0x36, d]
  | .scf => [0x37]
  | .jrCE8 d => [0x38, d]
  | .addHlSp => [0x39]
  | .ldAAtHlDec => [0x3A]
  | .decSp => [0x3B]
  | .incA => [0x3C]
  | .decA => [0x3D]
  | .ldAD8 d => [0x3E, d]
  | .ccf => [0x3F]
  | .ldBB => [0x40]
  | .ldBC => [0x41]
  | .ldBD => [0x42]
  | .ldBE => [0x43]
  | .ldBH => [0x44]
  | .ldBL => [0x45]
  | .ldBAtHl => [0x46]
  | .ldBA => [0x47]
  | .ldCB => [0x48]
  | .ldCC => [0x49]
  | .ldCD => [0x4A]
  | .ldCE => [0x4B]
  | .ldCH => [0x4C]
  | .ldCL => [0x4D]
  | .ldCAtHl => [0x4E]
  | .ldCA => [0x4F]
  | .ldDB => [0x50]
  | .ldDC => [0x51]
  | .ldDD => [0x52]
  | .ldDE => [0x53]
  | .ldDH => [0x54]
  | .ldDL => [0x55]
  | .ldDAtHl => [0x56]
  | .ldDA => [0x57]
  | .ldEB => [0x58]
  | .ldEC => [0x59]
  | .ldED => [0x5A]
  | .ldEE => [0x5B]
  | .ldEH => [0x5C]
  | .ldEL => [0x5D]
  | .ldEAtHl => [0x5E]
  | .ldEA => [0x5F]
  | .ldHB => [0x60]
  | .ldHC => [0x61]
  | .ldHD => [0x62]
  | .ldHE => [0x63]
  | .ldHH => [0x64]
  | .ldHL => [0x65]
  | .ldHAtHl => [0x66]
  | .ldHA => [0x67]
  | .ldLB => [0x68]
  | .ldLC => [0x69]
  | .ldLD => [0x6A]
  | .ldLE => [0x6B]
  | .ldLH => [0x6C]
  | .ldLL => [0x6D]
  | .ldLAtHl => [0x6E]
  | .ldLA => [0x6F]
  | .ldAtHlB => [0x70]
  | .ldAtHlC => [0x71]
  | .ldAtHlD => [0x72]
  | .ldAtHlE => [0x73]
  | .ldAtHlH => [0x74]
  | .ldAtHlL => [0x75]
  | .halt => [0x76]
  | .ldAtHlA => [0x77]
  | .ldAB => [0x78]
  | .ldAC => [0x79]
  | .ldAD => [0x7A]
  | .ldAE => [0x7B]
  | .ldAH => [0x7C]
  | .ldAL => [0x7D]
  | .ldAAtHl => [0x7E]
  | .ldAA => [0x7F]
  | .addAB => [0x80]
  | .addAC => [0x81]
  | .addAD => [0x82]
  | .addAE => [0x83]
  | .addAH => [0x84]
  | .addAL => [0x85]
  | .addAAtHl => [0x86]
  | .addAA => [0x87]
  | .adcAB => [0x88]
  | .adcAC => [0x89]
  | .adcAD => [0x8A]
  | .adcAE => [0x8B]
  | .adcAH => [0x8C]
  | .adcAL => [0x8D]
  | .adcAAtHl => [0x8E]
  | .adcAA => [0x8F]
  | .subB => [0x90]
  | .subC => [0x91]
  | .subD => [0x92]
  | .subE => [0x93]
  | .subH => [0x94]
  | .subL => [0x95]
  | .subAtHl => [0x96]
  | .subA => [0x97]
  | .sbcAB => [0x98]
  | .sbcAC => [0x99]
  | .sbcAD => [0x9A]
  | .sbcAE => [0x9B]
  | .sbcAH => [0x9C]
  | .sbcAL => [0x9D]
  | .sbcAAtHl => [0x9E]
  | .sbcAA => [0x9F]
  | .andB => [0xA0]
  | .andC => [0xA1]
  | .andD => [0xA2]
  | .andE => [0xA3]
  | .andH => [0xA4]
  | .andL => [0xA5]
  | .andAtHl => [0xA6]
  | .andA => [0xA7]
  | .xorB => [0xA8]
  | .xorC => [0xA9]
  | .xorD => [0xAA]
  | .xorE => [0xAB]
  | .xorH => [0xAC]
  | .xorL => [0xAD]
  | .xorAtHl => [0xAE]
  | .xorA => [0xAF]
  | .orB => [0xB0]
  | .orC => [0xB1]
  | .orD => [0xB2]
  | .orE => [0xB3]
  | .orH => [0xB4]
  | .orL => [0xB5]
  | .orAtHl => [0xB6]
  | .orA => [0xB7]
  | .cpB => [0xB8]
  | .cpC => [0xB9]
  | .cpD => [0xBA]
  | .cpE => [0xBB]
  | .cpH => [0xBC]
  | .cpL => [0xBD]
  | .cpAtHl => [0xBE]
  | .cpA => [0xBF]
  | .retNz => [0xC0]
  | .popBc => [0xC1]
  | .jpNzA16 d => bytesF3 0xC2 d
  | .jpA16 d => bytesF3 0xC3 d
  | .callNzA16 d => bytesF3 0xC4 d
  | .pushBc => [0xC5]
  | .addAD8 d => [0xC6, d]
  | .rst00 => [0xC7]
  | .retZ => [0xC8]
  | .ret => [0xC9]
  | .jpZA16 d => bytesF3 0xCA d
  | .prefixCb => [0xCB]
  | .callZA16 d => bytesF3 0xCC d
  | .callA16 d => bytesF3 0xCD d
  | .adcAD8 d => [0xCE, d]
  | .rst08 => [0xCF]
  | .retNc => [0xD0]
  | .popDe => [0xD1]
  | .jpNcA16 d => bytesF3 0xD2 d
  | .illegalD3 => [0xD3]
  | .callNcA16 d => bytesF3 0xD4 d
  | .pushDe => [0xD5]
  | .subD8 d => [0xD6, d]
  | .rst10 => [0xD7]
  | .retC => [0xD8]
  | .reti => [0xD9]
  | .jpCA16 d => bytesF3 0xDA d
  | .illegalDB => [0xDB]
  | .callCA16 d => bytesF3 0xDC d
  | .illegalDD => [0xDD]
  | .sbcAD8 d => [0xDE, d]
  | .rst18 => [0xDF]
  | .ldhAtA8A d => [0xE0, d]
  | .popHl => [0xE1]
  | .ldAtCA => [0xE2]
  | .illegalE3 => [0xE3]
  | .illegalE4 => [0xE4]
  | .pushHl => [0xE5]
  | .andD8 d => [0xE6, d]
  | .rst20 => [0xE7]
  | .addSpE8 d => [0xE8, d]
  | .jpHl => [0xE9]
  | .ldAtA16A d => bytesF3 0xEA d
  | .illegalEB => [0xEB]
  | .illegalEC => [0xEC]
  | .illegalED => [0xED]
  | .xorD8 d => [0xEE, d]
  | .rst28 => [0xEF]
  | .ldhAAtA8 d => [0xF0, d]
  | .popAf => [0xF1]
  | .ldAAtC => [0xF2]
  | .di => [0xF3]
  | .illegalF4 => [0xF4]
  | .pushAf => [0xF5]
  | .orD8 d => [0xF6, d]
  | .rst30 => [0xF7]
  | .ldHlSpE8 d => [0xF8, d]
  | .ldSpHl => [0xF9]
  | .ldAAtA16 d => bytesF3 0xFA d
  | .ei => [0xFB]
  | .illegalFC => [0xFC]
  | .illegalFD => [0xFD]
  | .cpD8 d => [0xFE, d]
  | .rst38 => [0xFF]
  | .rlcB => [0xCB, 0x00]
  | .rlcC => [0xCB, 0x01]
  | .rlcD => [0xCB, 0x02]
  | .rlcE => [0xCB, 0x03]
  | .rlcH => [0xCB, 0x04]
  | .rlcL => [0xCB, 0x05]
  | .rlcAtHl => [0xCB, 0x06]
  | .rlcA => [0xCB, 0x07]
  | .rrcB => [0xCB, 0x08]
  | .rrcC => [0xCB, 0x09]
  | .rrcD => [0xCB, 0x0A]
  | .rrcE => [0xCB, 0x0B]
  | .rrcH => [0xCB, 0x0C]
  | .rrcL => [0xCB, 0x0D]
  | .rrcAtHl => [0xCB, 0x0E]
  | .rrcA => [0xCB, 0x0F]
  | .rlB => [0xCB, 0x10]
  | .rlC => [0xCB, 0x11]
  | .rlD => [0xCB, 0x12]
  | .rlE => [0xCB, 0x13]
  | .rlH => [0xCB, 0x14]
  | .rlL => [0xCB, 0x15]
  | .rlAtHl => [0xCB, 0x16]
  | .rlA => [0xCB, 0x17]
  | .rrB => [0xCB, 0x18]
  | .rrC => [0xCB, 0x19]
  | .rrD => [0xCB, 0x1A]
  | .rrE => [0xCB, 0x1B]
  | .rrH => [0xCB, 0x1C]
  | .rrL => [0xCB, 0x1D]
  | .rrAtHl => [0xCB, 0x1E]
  | .rrA => [0xCB, 0x1F]
  | .slaB => [0xCB, 0x20]
  | .slaC => [0xCB, 0x21]
  | .slaD => [0xCB, 0x22]
  | .slaE => [0xCB, 0x23]
  | .slaH => [0xCB, 0x24]
  | .slaL => [0xCB, 0x25]
  | .slaAtHl => [0xCB, 0x26]
  | .slaA => [0xCB, 0x27]
  | .sraB => [0xCB, 0x28]
  | .sraC => [0xCB, 0x29]
  | .sraD => [0xCB, 0x2A]
  | .sraE => [0xCB, 0x2B]
  | .sraH => [0xCB, 0x2C]
  | .sraL => [0xCB, 0x2D]
  | .sraAtHl => [0xCB, 0x2E]
  | .sraA => [0xCB, 0x2F]
  | .swapB => [0xCB, 0x30]
  | .swapC => [0xCB, 0x31]
  | .swapD => [0xCB, 0x32]
  | .swapE => [0xCB, 0x33]
  | .swapH => [0xCB, 0x34]
  | .swapL => [0xCB, 0x35]
  | .swapAtHl => [0xCB, 0x36]
  | .swapA => [0xCB, 0x37]
  | .srlB => [0xCB, 0x38]
  | .srlC => [0xCB, 0x39]
  | .srlD => [0xCB, 0x3A]
  | .srlE => [0xCB, 0x3B]
  | .srlH => [0xCB, 0x3C]
  | .srlL => [0xCB, 0x3D]
  | .srlAtHl => [0xCB, 0x3E]
  | .srlA => [0xCB, 0x3F]
  | .bit0B => [0xCB, 0x40]
  | .bit0C => [0xCB, 0x41]
  | .bit0D => [0xCB, 0x42]
  | .bit0E => [0xCB, 0x43]
  | .bit0H => [0xCB, 0x44]
  | .bit0L => [0xCB, 0x45]
  | .bit0AtHl => [0xCB, 0x46]
  | .bit0A => [0xCB, 0x47]
  | .bit1B => [0xCB, 0x48]
  | .bit1C => [0xCB, 0x49]
  | .bit1D => [0xCB, 0x4A]
  | .bit1E => [0xCB, 0x4B]
  | .bit1H => [0xCB, 0x4C]
  | .bit1L => [0xCB, 0x4D]
  | .bit1AtHl => [0xCB, 0x4E]
  | .bit1A => [0xCB, 0x4F]
  | .bit2B => [0xCB, 0x50]
  | .bit2C => [0xCB, 0x51]
  | .bit2D => [0xCB, 0x52]
  | .bit2E => [0xCB, 0x53]
  | .bit2H => [0xCB, 0x54]
  | .bit2L => [0xCB, 0x55]
  | .bit2AtHl => [0xCB, 0x56]
  | .bit2A => [0xCB, 0x57]
  | .bit3B => [0xCB, 0x58]
  | .bit3C => [0xCB, 0x59]
  | .bit3D => [0xCB, 0x5A]
  | .bit3E => [0xCB, 0x5B]
  | .bit3H => [0xCB, 0x5C]
  | .bit3L => [0xCB, 0x5D]
  | .bit3AtHl => [0xCB, 0x5E]
  | .bit3A => [0xCB, 0x5F]
  | .bit4B => [0xCB, 0x60]
  | .bit4C => [0xCB, 0x61]
  | .bit4D => [0xCB, 0x62]
  | .bit4E => [0xCB, 0x63]
  | .bit4H => [0xCB, 0x64]
  | .bit4L => [0xCB, 0x65]
  | .bit4AtHl => [0xCB, 0x66]
  | .bit4A => [0xCB, 0x67]
  | .bit5B => [0xCB, 0x68]
  | .bit5C => [0xCB, 0x69]
  | .bit5D => [0xCB, 0x6A]
  | .bit5E => [0xCB, 0x6B]
  | .bit5H => [0xCB, 0x6C]
  | .bit5L => [0xCB, 0x6D]
  | .bit5AtHl => [0xCB, 0x6E]
  | .bit5A => [0xCB, 0x6F]
  | .bit6B => [0xCB, 0x70]
  | .bit6C => [0xCB, 0x71]
  | .bit6D => [0xCB, 0x72]
  | .bit6E => [0xCB, 0x73]
  | .bit6H => [0xCB, 0x74]
  | .bit6L => [0xCB, 0x75]
  | .bit6AtHl => [0xCB, 0x76]
  | .bit6A => [0xCB, 0x77]
  | .bit7B => [0xCB, 0x78]
  | .bit7C => [0xCB, 0x79]
  | .bit7D => [0xCB, 0x7A]
  | .bit7E => [0xCB, 0x7B]
  | .bit7H => [0xCB, 0x7C]
  | .bit7L => [0xCB, 0x7D]
  | .bit7AtHl => [0xCB, 0x7E]
  | .bit7A => [0xCB, 0x7F]
  | .res0B => [0xCB, 0x80]
  | .res0C => [0xCB, 0x81]
  | .res0D => [0xCB, 0x82]
  | .res0E => [0xCB, 0x83]
  | .res0H => [0xCB, 0x84]
  | .res0L => [0xCB, 0x85]
  | .res0AtHl => [0xCB, 0x86]
  | .res0A => [0xCB, 0x87]
  | .res1B => [0xCB, 0x88]
  | .res1C => [0xCB, 0x89]
  | .res1D => [0xCB, 0x8A]
  | .res1E => [0xCB, 0x8B]
  | .res1H => [0xCB, 0x8C]
  | .res1L => [0xCB, 0x8D]
  | .res1AtHl => [0xCB, 0x8E]
  | .res1A => [0xCB, 0x8F]
  | .res2B => [0xCB, 0x90]
  | .res2C => [0xCB, 0x91]
  | .res2D => [0xCB, 0x92]
  | .res2E => [0xCB, 0x93]
  | .res2H => [0xCB, 0x94]
  | .res2L => [0xCB, 0x95]
  | .res2AtHl => [0xCB, 0x96]
  | .res2A => [0xCB, 0x97]
  | .res3B => [0xCB, 0x98]
  | .res3C => [0xCB, 0x99]
  | .res3D => [0xCB, 0x9A]
  | .res3E => [0xCB, 0x9B]
  | .res3H => [0xCB, 0x9C]
  | .res3L => [0xCB, 0x9D]
  | .res3AtHl => [0xCB, 0x9E]
  | .res3A => [0xCB, 0x9F]
  | .res4B => [0xCB, 0xA0]
  | .res4C => [0xCB, 0xA1]
  | .res4D => [0xCB, 0xA2]
  | .res4E => [0xCB, 0xA3]
  | .res4H => [0xCB, 0xA4]
  | .res4L => [0xCB, 0xA5]
  | .res4AtHl => [0xCB, 0xA6]
  | .res4A => [0xCB, 0xA7]
  | .res5B => [0xCB, 0xA8]
  | .res5C => [0xCB, 0xA9]
  | .res5D => [0xCB, 0xAA]
  | .res5E => [0xCB, 0xAB]
  | .res5H => [0xCB, 0xAC]
  | .res5L => [0xCB, 0xAD]
  | .res5AtHl => [0xCB, 0xAE]
  | .res5A => [0xCB, 0xAF]
  | .res6B => [0xCB, 0xB0]
  | .res6C => [0xCB, 0xB1]
  | .res6D => [0xCB, 0xB2]
  | .res6E => [0xCB, 0xB3]
  | .res6H => [0xCB, 0xB4]
  | .res6L => [0xCB, 0xB5]
  | .res6AtHl => [0xCB, 0xB6]
  | .res6A => [0xCB, 0xB7]
  | .res7B => [0xCB, 0xB8]
  | .res7C => [0xCB, 0xB9]
  | .res7D => [0xCB, 0xBA]
  | .res7E => [0xCB, 0xBB]
  | .res7H => [0xCB, 0xBC]
  | .res7L => [0xCB, 0xBD]
  | .res7AtHl => [0xCB, 0xBE]
  | .res7A => [0xCB, 0xBF]
  | .set0B => [0xCB, 0xC0]
  | .set0C => [0xCB, 0xC1]
  | .set0D => [0xCB, 0xC2]
  | .set0E => [0xCB, 0xC3]
  | .set0H => [0xCB, 0xC4]
  | .set0L => [0xCB, 0xC5]
  | .set0AtHl => [0xCB, 0xC6]
  | .set0A => [0xCB, 0xC7]
  | .set1B => [0xCB, 0xC8]
  | .set1C => [0xCB, 0xC9]
  | .set1D => [0xCB, 0xCA]
  | .set1E => [0xCB, 0xCB]
  | .set1H => [0xCB, 0xCC]
  | .set1L => [0xCB, 0xCD]
  | .set1AtHl => [0xCB, 0xCE]
  | .set1A => [0xCB, 0xCF]
  | .set2B => [0xCB, 0xD0]
  | .set2C => [0xCB, 0xD1]
  | .set2D => [0xCB, 0xD2]
  | .set2E => [0xCB, 0xD3]
  | .set2H => [0xCB, 0xD4]
  | .set2L => [0xCB, 0xD5]
  | .set2AtHl => [0xCB, 0xD6]
  | .set2A => [0xCB, 0xD7]
  | .set3B => [0xCB, 0xD8]
  | .set3C => [0xCB, 0xD9]
  | .set3D => [0xCB, 0xDA]
  | .set3E => [0xCB, 0xDB]
  | .set3H => [0xCB, 0xDC]
  | .set3L => [0xCB, 0xDD]
  | .set3AtHl => [0xCB, 0xDE]
  | .set3A => [0xCB, 0xDF]
  | .set4B => [0xCB, 0xE0]
  | .set4C => [0xCB, 0xE1]
  | .set4D => [0xCB, 0xE2]
  | .set4E => [0xCB, 0xE3]
  | .set4H => [0xCB, 0xE4]
  | .set4L => [0xCB, 0xE5]
  | .set4AtHl => [0xCB, 0xE6]
  | .set4A => [0xCB, 0xE7]
  | .set5B => [0xCB, 0xE8]
  | .set5C => [0xCB, 0xE9]
  | .set5D => [0xCB, 0xEA]
  | .set5E => [0xCB, 0xEB]
  | .set5H => [0xCB, 0xEC]
  | .set5L => [0xCB, 0xED]
  | .set5AtHl => [0xCB, 0xEE]
  | .set5A => [0xCB, 0xEF]
  | .set6B => [0xCB, 0xF0]
  | .set6C => [0xCB, 0xF1]
  | .set6D => [0xCB, 0xF2]
  | .set6E => [0xCB, 0xF3]
  | .set6H => [0xCB, 0xF4]
  | .set6L => [0xCB, 0xF5]
  | .set6AtHl => [0xCB, 0xF6]
  | .set6A => [0xCB, 0xF7]
  | .set7B => [0xCB, 0xF8]
  | .set7C => [0xCB, 0xF9]
  | .set7D => [0xCB, 0xFA]
  | .set7E => [0xCB, 0xFB]
  | .set7H => [0xCB, 0xFC]
  | .set7L => [0xCB, 0xFD]
  | .set7AtHl => [0xCB, 0xFE]
  | .set7A => [0xCB, 0xFF]

end Sys2Proof
end

