-- ==== Sys2Proof/Machine/Fetch.lean ====
section
/-! DEFINITION. Fetch and lookup (R100 to R103), which `step` calls, and the placing of an instruction's bytes. -/

namespace Sys2Proof.Machine

/-- The table entry the next step looks up (R100, R102, R103): the opcode byte, or the sub-opcode after the 0xCB byte.
The second byte's address wraps. -/
def State.fetchKey (s : State) : Key :=
  if s.readByte s.pc = cbByte then (.cb, s.readByte (s.pc + 1)) else (.primary, s.readByte s.pc)

/-- The instruction at `pc`: the decoder on the three bytes from `pc` on, whose addresses wrap (R92, R93). -/
def State.fetchInstr (s : State) : Instr :=
  decodeBytes (s.readByte s.pc) (s.readByte (s.pc + 1)) (s.readByte (s.pc + 2))

/-- Fetch writes the last opcode byte it fetched and nothing else (R32, R101). -/
def State.noteOpcode (s : State) (k : Key) : State := { s with opcode := k.2 }

/-- What the engine does before a populated handler runs (R105). -/
def State.enterHandler (s : State) : State := { s with unknownCount := 0 }

/-- Put bytes into the array from an address on, as the load of an image does, not as a write of the core (R332). -/
def State.placeBytes (s : State) (a : Word) : List Byte → State
  | [] => s
  | b :: rest => ({ s with mem := s.mem.write a.toNat b }).placeBytes (a + 1) rest

end Sys2Proof.Machine
end

