-- ==== Sys2Proof/Machine/Step.lean ====
section
/-! DEFINITION. One step (R100): one whole instruction, the 0xCB byte included. -/

namespace Sys2Proof.Machine

/-- The step of R100. A state that is not running takes none (R34). A populated entry runs its handler after
`unknown_count` is cleared (R105); any other entry runs the unknown-opcode handler (R106). -/
def step (s : State) : Host.Outcome State Fault Refusal :=
  match s.status with
  | .running =>
    if populated s.build.populated s.fetchKey then exec s.fetchInstr (s.noteOpcode s.fetchKey).enterHandler
    else .next ((s.noteOpcode s.fetchKey).unknown s.fetchKey.1 s.fetchKey.2)
  | _ => .fault .notRunning

/-- The state with a table word stored at `pc`, where `step` fetches, the bytes it does not reach being zero. -/
def State.withFetchWord (s : State) (nbits w : Nat) : State :=
  s.placeBytes s.pc ((tableBytes (nbits / 8) w ++ [0, 0, 0]).take 3)

end Sys2Proof.Machine
end

