-- ==== Sys2Proof/Machine/Boot.lean ====
section
/-! DEFINITION. Creation of the state from a build, boot registers and an image (R61, R330 to R333), which is also all
that a re-initialization does. -/

namespace Sys2Proof.Machine

/-- The cells of an image whose first byte stands at address `a`, without the bytes that equal an unlisted one. -/
def imageCells : Nat → List Byte → Memory
  | _, [] => []
  | a, b :: rest => if b = Memory.unlisted then imageCells (a + 1) rest else (a, b) :: imageCells (a + 1) rest

/-- The state at creation (R37): the image at address 0, zeros after it (R61). -/
def State.initial (build : Build) (boot : BootRegs) (image : List Byte) : State :=
  { State.reset with bc := boot.bc, de := boot.de, hl := boot.hl, mem := imageCells 0 image, build := build }

/-- Load an image and create the state (R332, R333). An image that could not be obtained (`none`), or one longer than
the read-only region, is refused and no run starts. -/
def create (build : Build) (boot : BootRegs) (image : Option (List Byte)) : Except LoadError State :=
  match image with
  | none => .error (.imageRefused none)
  | some bytes =>
    if bytes.length > romBoundary then .error (.imageRefused (some bytes.length))
    else .ok (State.initial build boot bytes)

end Sys2Proof.Machine
end

