-- ==== Sys2Proof/Machine/HostSide.lean ====
section
/-! DEFINITION. The host's side of the interface (R340 to R344): the run loop with its quit signal, the register dump,
and the cause codes. The host reads the state and gives the quit signal; it writes nothing else (R342). -/

namespace Sys2Proof.Machine

/-- The run loop of R343, for as many turns as the list is long. Each entry answers `quit_requested()` at one check,
which comes before the step. The loop ends early when the status leaves `running`. -/
def runLoop : List Bool → State → Result
  | [], s => .next s
  | quit :: later, s =>
    match s.status with
    | .running =>
      if quit then .next { s with status := .quit }
      else
        match step s with
        | .next t => runLoop later t
        | .fault r => .fault r
        | .refused r => .refused r
    | _ => .next s

/-- An uppercase hexadecimal digit. -/
def hexDigit (n : Nat) : Char := "0123456789ABCDEF".toList.getD n '?'

/-- The low `k` hexadecimal digits of a number, the highest first. -/
def hexDigits : Nat → Nat → List Char
  | 0, _ => []
  | k + 1, n => hexDigits k (n / 16) ++ [hexDigit (n % 16)]

/-- The register dump `PC AF BC DE HL SP cycles` (R341), as characters. R341 gives `cycles` sixteen digits, so there is
no dump of a count that needs more. -/
def State.dump (s : State) : Option (List Char) :=
  if s.cycles < 16 ^ 16 then
    some (hexDigits 4 s.pc.toNat ++ ' ' :: hexDigits 4 s.af.toNat ++ ' ' :: hexDigits 4 s.bc.toNat ++
      ' ' :: hexDigits 4 s.de.toNat ++ ' ' :: hexDigits 4 s.hl.toNat ++ ' ' :: hexDigits 4 s.sp.toNat ++
      ' ' :: hexDigits 16 s.cycles)
  else none

/-- The codes of the fatal causes of a step (R302). -/
def FatalReason.code : FatalReason → Nat
  | .unknownOpcode _ _ _ => 1
  | .unknownBoundExceeded _ _ _ => 2

/-- The code of the fatal cause at load (R302). -/
def LoadError.code : LoadError → Nat
  | .imageRefused _ => 3

/-- The codes of the diagnostic events (R302): a logged unknown opcode carries the code of its cause. -/
def DiagEvent.code : DiagEvent → Nat
  | .unknownOpcode _ _ _ => 1
  | .romWrite _ => 16

end Sys2Proof.Machine
end

