-- ==== Sys2Proof/Safety.lean ====
section
/-! DEFINITION. The terms in which statements about runs are made: the invariant of the state, the bytes an instruction
stores to, and a run without a fatal stop. -/

namespace Sys2Proof

open Machine

/-- Bits 3:0 of `F` are zero (R26). -/
def Machine.State.flagsClean (s : State) : Prop := s.get8 .f &&& 0x0F = 0

/-- `unknown_count` is in its range (R20), and below the bound's end while the core runs (R107). -/
def Machine.State.countInRange (s : State) : Prop :=
  s.unknownCount ≤ unknownBound + 1 ∧ (s.status = .running → s.unknownCount ≤ unknownBound)

/-- What holds of every state a run reaches: the memory is in canonical form, bits 3:0 of `F` read as zero, and
`unknown_count` is in its range. -/
def Machine.State.Inv (s : State) : Prop := s.mem.wf = true ∧ s.flagsClean ∧ s.countInRange

/-- The state has not stopped on a fatal error (R300). -/
def Machine.State.noFatal (s : State) : Prop := ∀ r, s.status ≠ .fatal r

/-- The two bytes of a word store at an address (R56): none where the first byte is read-only. -/
def wordBytesAt (a : Word) : List Word := if isRom a then [] else [a, a + 1]

/-- The addresses the primary instructions store to, computed from the state before them as the meanings do; an
instruction not listed stores nothing. The boundary may still refuse an address listed here (R54). -/
def storesOf (i : Instr) (s : State) : List Word :=
  match i with
  | .ldAtBcA => [s.bc]
  | .ldAtDeA => [s.de]
  | .ldAtHlB | .ldAtHlC | .ldAtHlD | .ldAtHlE | .ldAtHlH | .ldAtHlL | .ldAtHlA => [s.hl]
  | .ldAtHlD8 _ | .ldAtHlIncA | .ldAtHlDecA | .incAtHl | .decAtHl => [s.hl]
  | .ldAtA16A a => [a]
  | .ldhAtA8A a => [highPage a]
  | .ldAtCA => [s.addrC]
  | .ldAtA16Sp a => wordBytesAt a
  | .pushBc | .pushDe | .pushHl | .pushAf => wordBytesAt s.pushAddr
  | .callA16 _ => wordBytesAt s.pushAddr
  | .callNzA16 _ => if s.cond .nz then wordBytesAt s.pushAddr else []
  | .callZA16 _ => if s.cond .z then wordBytesAt s.pushAddr else []
  | .callNcA16 _ => if s.cond .nc then wordBytesAt s.pushAddr else []
  | .callCA16 _ => if s.cond .c then wordBytesAt s.pushAddr else []
  | .rst00 | .rst08 | .rst10 | .rst18 | .rst20 | .rst28 | .rst30 | .rst38 => wordBytesAt s.pushAddr
  | .rlcAtHl | .rrcAtHl | .rlAtHl | .rrAtHl | .slaAtHl | .sraAtHl | .swapAtHl | .srlAtHl => [s.hl]
  | .res0AtHl | .res1AtHl | .res2AtHl | .res3AtHl | .res4AtHl | .res5AtHl | .res6AtHl | .res7AtHl => [s.hl]
  | .set0AtHl | .set1AtHl | .set2AtHl | .set3AtHl | .set4AtHl | .set5AtHl | .set6AtHl | .set7AtHl => [s.hl]
  | _ => []

end Sys2Proof
end

