-- ==== Sys2Proof/Certificates/Slice0/Obligations.lean ====
section
/-! DEFINITION. The statements for the provers. A statement about an instruction gives the whole next state, so it also
says what stays as it was. Where bytes are stored, the memory is given by what each of its addresses reads as. In the
instruction rules the spec marks the encodings and the costs in machine cycles [from general knowledge, not in source];
it marks the rules of DAA, CPL, SCF and CCF so as a whole, and `addsp` (R230) and the shift functions (R250). -/

namespace Sys2Proof.Claims

open Machine

/-! ## Terms the statements are written in -/

/-- `F` after a write of all of it: the four flags in bits 7 to 4, bits 3:0 zero (R26). -/
def fOf (z n h c : Bool) : Byte := BitVec.ofNat 8 (128 * z.toNat + 64 * n.toNat + 32 * h.toNat + 16 * c.toNat)

/-- `F` with the four flags given and bits 3:0 as in `old`. -/
def fWith (old : Byte) (z n h c : Bool) : Byte :=
  BitVec.ofNat 8 (128 * z.toNat + 64 * n.toNat + 32 * h.toNat + 16 * c.toNat + old.toNat % 16)

/-- The state with `F` replaced. -/
def withF (s : State) (f : Byte) : State := { s with af := mkWord (hiByte s.af) f }

/-- The state with `A` and `F` replaced. -/
def withAF (s : State) (a f : Byte) : State := { s with af := mkWord a f }

/-- `pc` moves past `len` bytes and `cycles` gains `m` (R15). -/
def past (s : State) (len : Word) (m : Nat) : State := { s with pc := s.pc + len, cycles := s.cycles + m }

/-- `pc` becomes `target` and `cycles` gains `m` (R201). -/
def goes (s : State) (target : Word) (m : Nat) : State := { s with pc := target, cycles := s.cycles + m }

/-- The condition of a branch, on bits 7 and 4 of `F` (R200). -/
def holds (s : State) : Cond → Bool
  | .nz => !(s.get8 .f).getLsbD 7
  | .z => (s.get8 .f).getLsbD 7
  | .nc => !(s.get8 .f).getLsbD 4
  | .c => (s.get8 .f).getLsbD 4

/-- From `s` to `t`, one byte is stored at `a` (R54, R55): every address reads as before, but for `a` if it is not below
the boundary; below it, one warning is added. -/
def StoresByte (s t : State) (a : Word) (v : Byte) : Prop :=
  (∀ x, t.readByte x = if x = a ∧ 0x8000 ≤ a.toNat then v else s.readByte x) ∧
  t.diag = if a.toNat < 0x8000 then s.diag ++ [.romWrite a] else s.diag

/-- From `s` to `t`, one word is stored at `a` (R56): nothing and one warning if `a` is below the boundary; else the low
byte at `a` and the high byte at the next address, which is refused with a warning where it is below the boundary. -/
def StoresWord (s t : State) (a : Word) (v : Word) : Prop :=
  if a.toNat < 0x8000 then (∀ x, t.readByte x = s.readByte x) ∧ t.diag = s.diag ++ [.romWrite a]
  else if (a + 1).toNat < 0x8000 then
    (∀ x, t.readByte x = if x = a then loByte v else s.readByte x) ∧ t.diag = s.diag ++ [.romWrite (a + 1)]
  else
    (∀ x, t.readByte x = if x = a then loByte v else if x = a + 1 then hiByte v else s.readByte x) ∧
    t.diag = s.diag

/-- The instruction answers a next state that is `after` but for the memory and the stream, and in which one byte is
stored at `a`. -/
def RunsStoringByte (i : Instr) (s after : State) (a : Word) (v : Byte) : Prop :=
  ∃ t, exec i s = .next t ∧ StoresByte s t a v ∧ t = { after with mem := t.mem, diag := t.diag }

/-- The same for one word. -/
def RunsStoringWord (i : Instr) (s after : State) (a : Word) (v : Word) : Prop :=
  ∃ t, exec i s = .next t ∧ StoresWord s t a v ∧ t = { after with mem := t.mem, diag := t.diag }

/-- A form of the 8-bit ALU block with its operand byte, its length and its cost (R124). -/
structure AluForm where
  instr : Instr
  src   : Byte
  len   : Word
  cost  : Nat

/-- The nine forms of one ALU operation: the seven registers, `(HL)`, and the immediate byte `k` (R124). -/
def aluForms (b c d e h l a mem imm : Instr) (s : State) (k : Byte) : List AluForm :=
  [⟨b, s.get8 .b, 1, 1⟩, ⟨c, s.get8 .c, 1, 1⟩, ⟨d, s.get8 .d, 1, 1⟩, ⟨e, s.get8 .e, 1, 1⟩,
   ⟨h, s.get8 .h, 1, 1⟩, ⟨l, s.get8 .l, 1, 1⟩, ⟨a, s.get8 .a, 1, 1⟩,
   ⟨mem, s.readByte s.hl, 1, 2⟩, ⟨imm, k, 2, 2⟩]

/-- The state after an ALU form: `A` and `F` written, `pc` and `cycles` moved, nothing else. -/
def aluAfter (s : State) (x : AluForm) (res f : Byte) : State := past (withAF s res f) x.len x.cost

/-- The result and the carry of the eight functions of R250, in numbers. -/
def shifted : ShiftOp → Nat → Bool → Nat × Bool
  | .rlc, v, _ => ((2 * v + v / 128) % 256, decide (v ≥ 128))
  | .rrc, v, _ => (v / 2 + 128 * (v % 2), decide (v % 2 = 1))
  | .rl, v, cin => ((2 * v + cin.toNat) % 256, decide (v ≥ 128))
  | .rr, v, cin => (v / 2 + 128 * cin.toNat, decide (v % 2 = 1))
  | .sla, v, _ => (2 * v % 256, decide (v ≥ 128))
  | .sra, v, _ => (v / 2 + 128 * (v / 128), decide (v % 2 = 1))
  | .swap, v, _ => (16 * (v % 16) + v / 16, false)
  | .srl, v, _ => (v / 2, decide (v % 2 = 1))

/-- The shifted byte. -/
def shiftRes (op : ShiftOp) (v : Byte) (cin : Bool) : Byte := BitVec.ofNat 8 (shifted op v.toNat cin).1

/-- The carry out of the shift. -/
def shiftCarry (op : ShiftOp) (v : Byte) (cin : Bool) : Bool := (shifted op v.toNat cin).2

/-- The byte with bit `b` made 0: `2^b` less where the bit was 1. -/
def bitCleared (v : Byte) (b : Nat) : Byte := BitVec.ofNat 8 (v.toNat - if v.getLsbD b then 2 ^ b else 0)

/-- The byte with bit `b` made 1: `2^b` more where the bit was 0. -/
def bitRaised (v : Byte) (b : Nat) : Byte := BitVec.ofNat 8 (v.toNat + if v.getLsbD b then 0 else 2 ^ b)

/-- `A` after DAA, in numbers (R153). -/
def daaRes (a : Nat) (n h c : Bool) : Nat :=
  if n then (a + 512 - (if c then 0x60 else 0) - (if h then 0x06 else 0)) % 256
  else (a + (if c ∨ a > 0x99 then 0x60 else 0) + (if h ∨ a % 16 > 9 then 0x06 else 0)) % 256

/-- The carry after DAA (R153): never cleared, and raised only after an addition. -/
def daaCarry (a : Nat) (n c : Bool) : Bool := c || (!n && decide (a > 0x99))

/-- The operation of the 8-bit ALU block that the 3-bit field `alu` selects (R85). -/
def aluOpOf : Nat → AluOp
  | 0 => .add
  | 1 => .adc
  | 2 => .sub
  | 3 => .sbc
  | 4 => .and
  | 5 => .xor
  | 6 => .or
  | _ => .cp

/-- The table entry at `pc` (R100, R103). -/
def entryAt (s : State) : Key :=
  if s.readByte s.pc = 0xCB then (.cb, s.readByte (s.pc + 1)) else (.primary, s.readByte s.pc)

/-! ## The instructions a statement is about, with their operands -/

/-- LD r,r' (R162): destination, source. -/
def copyForms : List (Instr × Reg8 × Reg8) :=
  [(.ldBB, .b, .b), (.ldBC, .b, .c), (.ldBD, .b, .d), (.ldBE, .b, .e), (.ldBH, .b, .h), (.ldBL, .b, .l), (.ldBA, .b, .a),
   (.ldCB, .c, .b), (.ldCC, .c, .c), (.ldCD, .c, .d), (.ldCE, .c, .e), (.ldCH, .c, .h), (.ldCL, .c, .l), (.ldCA, .c, .a),
   (.ldDB, .d, .b), (.ldDC, .d, .c), (.ldDD, .d, .d), (.ldDE, .d, .e), (.ldDH, .d, .h), (.ldDL, .d, .l), (.ldDA, .d, .a),
   (.ldEB, .e, .b), (.ldEC, .e, .c), (.ldED, .e, .d), (.ldEE, .e, .e), (.ldEH, .e, .h), (.ldEL, .e, .l), (.ldEA, .e, .a),
   (.ldHB, .h, .b), (.ldHC, .h, .c), (.ldHD, .h, .d), (.ldHE, .h, .e), (.ldHH, .h, .h), (.ldHL, .h, .l), (.ldHA, .h, .a),
   (.ldLB, .l, .b), (.ldLC, .l, .c), (.ldLD, .l, .d), (.ldLE, .l, .e), (.ldLH, .l, .h), (.ldLL, .l, .l), (.ldLA, .l, .a),
   (.ldAB, .a, .b), (.ldAC, .a, .c), (.ldAD, .a, .d), (.ldAE, .a, .e), (.ldAH, .a, .h), (.ldAL, .a, .l), (.ldAA, .a, .a)]

/-- The rotates and shifts of a register (R256 to R270). -/
def shiftRegForms : List (Instr × ShiftOp × Reg8) :=
  [(.rlcB, .rlc, .b), (.rlcC, .rlc, .c), (.rlcD, .rlc, .d), (.rlcE, .rlc, .e), (.rlcH, .rlc, .h),
   (.rlcL, .rlc, .l), (.rlcA, .rlc, .a), (.rrcB, .rrc, .b), (.rrcC, .rrc, .c), (.rrcD, .rrc, .d),
   (.rrcE, .rrc, .e), (.rrcH, .rrc, .h), (.rrcL, .rrc, .l), (.rrcA, .rrc, .a), (.rlB, .rl, .b),
   (.rlC, .rl, .c), (.rlD, .rl, .d), (.rlE, .rl, .e), (.rlH, .rl, .h), (.rlL, .rl, .l),
   (.rlA, .rl, .a), (.rrB, .rr, .b), (.rrC, .rr, .c), (.rrD, .rr, .d), (.rrE, .rr, .e),
   (.rrH, .rr, .h), (.rrL, .rr, .l), (.rrA, .rr, .a), (.slaB, .sla, .b), (.slaC, .sla, .c),
   (.slaD, .sla, .d), (.slaE, .sla, .e), (.slaH, .sla, .h), (.slaL, .sla, .l), (.slaA, .sla, .a),
   (.sraB, .sra, .b), (.sraC, .sra, .c), (.sraD, .sra, .d), (.sraE, .sra, .e), (.sraH, .sra, .h),
   (.sraL, .sra, .l), (.sraA, .sra, .a), (.swapB, .swap, .b), (.swapC, .swap, .c), (.swapD, .swap, .d),
   (.swapE, .swap, .e), (.swapH, .swap, .h), (.swapL, .swap, .l), (.swapA, .swap, .a), (.srlB, .srl, .b),
   (.srlC, .srl, .c), (.srlD, .srl, .d), (.srlE, .srl, .e), (.srlH, .srl, .h), (.srlL, .srl, .l),
   (.srlA, .srl, .a)]

/-- The rotates and shifts of the byte at HL (R257 to R271). -/
def shiftMemForms : List (Instr × ShiftOp) :=
  [(.rlcAtHl, .rlc), (.rrcAtHl, .rrc), (.rlAtHl, .rl), (.rrAtHl, .rr),
   (.slaAtHl, .sla), (.sraAtHl, .sra), (.swapAtHl, .swap), (.srlAtHl, .srl)]

/-- BIT b,r (R272). -/
def bitRegForms : List (Instr × Nat × Reg8) :=
  [(.bit0B, 0, .b), (.bit0C, 0, .c), (.bit0D, 0, .d), (.bit0E, 0, .e), (.bit0H, 0, .h), (.bit0L, 0, .l), (.bit0A, 0, .a),
   (.bit1B, 1, .b), (.bit1C, 1, .c), (.bit1D, 1, .d), (.bit1E, 1, .e), (.bit1H, 1, .h), (.bit1L, 1, .l), (.bit1A, 1, .a),
   (.bit2B, 2, .b), (.bit2C, 2, .c), (.bit2D, 2, .d), (.bit2E, 2, .e), (.bit2H, 2, .h), (.bit2L, 2, .l), (.bit2A, 2, .a),
   (.bit3B, 3, .b), (.bit3C, 3, .c), (.bit3D, 3, .d), (.bit3E, 3, .e), (.bit3H, 3, .h), (.bit3L, 3, .l), (.bit3A, 3, .a),
   (.bit4B, 4, .b), (.bit4C, 4, .c), (.bit4D, 4, .d), (.bit4E, 4, .e), (.bit4H, 4, .h), (.bit4L, 4, .l), (.bit4A, 4, .a),
   (.bit5B, 5, .b), (.bit5C, 5, .c), (.bit5D, 5, .d), (.bit5E, 5, .e), (.bit5H, 5, .h), (.bit5L, 5, .l), (.bit5A, 5, .a),
   (.bit6B, 6, .b), (.bit6C, 6, .c), (.bit6D, 6, .d), (.bit6E, 6, .e), (.bit6H, 6, .h), (.bit6L, 6, .l), (.bit6A, 6, .a),
   (.bit7B, 7, .b), (.bit7C, 7, .c), (.bit7D, 7, .d), (.bit7E, 7, .e), (.bit7H, 7, .h), (.bit7L, 7, .l), (.bit7A, 7, .a)]

/-- BIT b,(HL) (R273). -/
def bitMemForms : List (Instr × Nat) :=
  [(.bit0AtHl, 0), (.bit1AtHl, 1), (.bit2AtHl, 2), (.bit3AtHl, 3),
   (.bit4AtHl, 4), (.bit5AtHl, 5), (.bit6AtHl, 6), (.bit7AtHl, 7)]

/-- RES b,r (R274). -/
def resRegForms : List (Instr × Nat × Reg8) :=
  [(.res0B, 0, .b), (.res0C, 0, .c), (.res0D, 0, .d), (.res0E, 0, .e), (.res0H, 0, .h), (.res0L, 0, .l), (.res0A, 0, .a),
   (.res1B, 1, .b), (.res1C, 1, .c), (.res1D, 1, .d), (.res1E, 1, .e), (.res1H, 1, .h), (.res1L, 1, .l), (.res1A, 1, .a),
   (.res2B, 2, .b), (.res2C, 2, .c), (.res2D, 2, .d), (.res2E, 2, .e), (.res2H, 2, .h), (.res2L, 2, .l), (.res2A, 2, .a),
   (.res3B, 3, .b), (.res3C, 3, .c), (.res3D, 3, .d), (.res3E, 3, .e), (.res3H, 3, .h), (.res3L, 3, .l), (.res3A, 3, .a),
   (.res4B, 4, .b), (.res4C, 4, .c), (.res4D, 4, .d), (.res4E, 4, .e), (.res4H, 4, .h), (.res4L, 4, .l), (.res4A, 4, .a),
   (.res5B, 5, .b), (.res5C, 5, .c), (.res5D, 5, .d), (.res5E, 5, .e), (.res5H, 5, .h), (.res5L, 5, .l), (.res5A, 5, .a),
   (.res6B, 6, .b), (.res6C, 6, .c), (.res6D, 6, .d), (.res6E, 6, .e), (.res6H, 6, .h), (.res6L, 6, .l), (.res6A, 6, .a),
   (.res7B, 7, .b), (.res7C, 7, .c), (.res7D, 7, .d), (.res7E, 7, .e), (.res7H, 7, .h), (.res7L, 7, .l), (.res7A, 7, .a)]

/-- RES b,(HL) (R275). -/
def resMemForms : List (Instr × Nat) :=
  [(.res0AtHl, 0), (.res1AtHl, 1), (.res2AtHl, 2), (.res3AtHl, 3),
   (.res4AtHl, 4), (.res5AtHl, 5), (.res6AtHl, 6), (.res7AtHl, 7)]

/-- SET b,r (R276). -/
def setRegForms : List (Instr × Nat × Reg8) :=
  [(.set0B, 0, .b), (.set0C, 0, .c), (.set0D, 0, .d), (.set0E, 0, .e), (.set0H, 0, .h), (.set0L, 0, .l), (.set0A, 0, .a),
   (.set1B, 1, .b), (.set1C, 1, .c), (.set1D, 1, .d), (.set1E, 1, .e), (.set1H, 1, .h), (.set1L, 1, .l), (.set1A, 1, .a),
   (.set2B, 2, .b), (.set2C, 2, .c), (.set2D, 2, .d), (.set2E, 2, .e), (.set2H, 2, .h), (.set2L, 2, .l), (.set2A, 2, .a),
   (.set3B, 3, .b), (.set3C, 3, .c), (.set3D, 3, .d), (.set3E, 3, .e), (.set3H, 3, .h), (.set3L, 3, .l), (.set3A, 3, .a),
   (.set4B, 4, .b), (.set4C, 4, .c), (.set4D, 4, .d), (.set4E, 4, .e), (.set4H, 4, .h), (.set4L, 4, .l), (.set4A, 4, .a),
   (.set5B, 5, .b), (.set5C, 5, .c), (.set5D, 5, .d), (.set5E, 5, .e), (.set5H, 5, .h), (.set5L, 5, .l), (.set5A, 5, .a),
   (.set6B, 6, .b), (.set6C, 6, .c), (.set6D, 6, .d), (.set6E, 6, .e), (.set6H, 6, .h), (.set6L, 6, .l), (.set6A, 6, .a),
   (.set7B, 7, .b), (.set7C, 7, .c), (.set7D, 7, .d), (.set7E, 7, .e), (.set7H, 7, .h), (.set7L, 7, .l), (.set7A, 7, .a)]

/-- SET b,(HL) (R277). -/
def setMemForms : List (Instr × Nat) :=
  [(.set0AtHl, 0), (.set1AtHl, 1), (.set2AtHl, 2), (.set3AtHl, 3),
   (.set4AtHl, 4), (.set5AtHl, 5), (.set6AtHl, 6), (.set7AtHl, 7)]

/-- The gap bytes (R281 to R285) and the illegal bytes (R286). -/
def unknownForms : List (Instr × Byte) :=
  [(.halt, 0x76), (.stop, 0x10), (.di, 0xF3), (.ei, 0xFB), (.reti, 0xD9), (.illegalD3, 0xD3),
   (.illegalDB, 0xDB), (.illegalDD, 0xDD), (.illegalE3, 0xE3), (.illegalE4, 0xE4), (.illegalEB, 0xEB), (.illegalEC, 0xEC),
   (.illegalED, 0xED), (.illegalF4, 0xF4), (.illegalFC, 0xFC), (.illegalFD, 0xFD)]

/-- Cells of the primary map that differ in one field alone: the byte whose field is 0, what one more in the field adds to
the byte, and the instructions in the order of the field. -/
structure FieldRow where
  base   : Nat
  stride : Nat
  instrs : List Instr

/-- The rows of 0x00 to 0x3F and of 0xC0 to 0xFF in which a field runs, with an operand byte `d` and an operand word `w`.
A stride of 8 is a field whose lowest bit is bit 3, and a stride of 16 one whose lowest bit is bit 4. -/
def fieldRows (d : Byte) (w : Word) : List FieldRow :=
  [ -- INC r
   ⟨0x04, 8, [.incB, .incC, .incD, .incE, .incH, .incL, .incAtHl, .incA]⟩,
   -- DEC r
   ⟨0x05, 8, [.decB, .decC, .decD, .decE, .decH, .decL, .decAtHl, .decA]⟩,
   -- LD r,d8
   ⟨0x06, 8, [.ldBD8 d, .ldCD8 d, .ldDD8 d, .ldED8 d, .ldHD8 d, .ldLD8 d, .ldAtHlD8 d, .ldAD8 d]⟩,
   -- LD rr,d16
   ⟨0x01, 16, [.ldBcD16 w, .ldDeD16 w, .ldHlD16 w, .ldSpD16 w]⟩,
   -- INC rr
   ⟨0x03, 16, [.incBc, .incDe, .incHl, .incSp]⟩,
   -- DEC rr
   ⟨0x0B, 16, [.decBc, .decDe, .decHl, .decSp]⟩,
   -- ADD HL,rr
   ⟨0x09, 16, [.addHlBc, .addHlDe, .addHlHl, .addHlSp]⟩,
   -- PUSH rr
   ⟨0xC5, 16, [.pushBc, .pushDe, .pushHl, .pushAf]⟩,
   -- POP rr
   ⟨0xC1, 16, [.popBc, .popDe, .popHl, .popAf]⟩,
   -- the stores of A through a pair
   ⟨0x02, 16, [.ldAtBcA, .ldAtDeA, .ldAtHlIncA, .ldAtHlDecA]⟩,
   -- the loads of A through a pair
   ⟨0x0A, 16, [.ldAAtBc, .ldAAtDe, .ldAAtHlInc, .ldAAtHlDec]⟩,
   -- JR cc,e8
   ⟨0x20, 8, [.jrNzE8 d, .jrZE8 d, .jrNcE8 d, .jrCE8 d]⟩,
   -- JP cc,a16
   ⟨0xC2, 8, [.jpNzA16 w, .jpZA16 w, .jpNcA16 w, .jpCA16 w]⟩,
   -- CALL cc,a16
   ⟨0xC4, 8, [.callNzA16 w, .callZA16 w, .callNcA16 w, .callCA16 w]⟩,
   -- RET cc
   ⟨0xC0, 8, [.retNz, .retZ, .retNc, .retC]⟩,
   -- RST n
   ⟨0xC7, 8, [.rst00, .rst08, .rst10, .rst18, .rst20, .rst28, .rst30, .rst38]⟩,
   -- the ALU with d8
   ⟨0xC6, 8, [.addAD8 d, .adcAD8 d, .subD8 d, .sbcAD8 d, .andD8 d, .xorD8 d, .orD8 d, .cpD8 d]⟩]

/-- The other documented cells of 0x00 to 0x3F and of 0xC0 to 0xFF. -/
def fixedCells (d : Byte) (w : Word) : List (Byte × Instr) :=
  [(0x00, .nop), (0x07, .rlca), (0x08, .ldAtA16Sp w), (0x0F, .rrca), (0x17, .rla), (0x18, .jrE8 d),
   (0x1F, .rra), (0x27, .daa), (0x2F, .cpl), (0x37, .scf), (0x3F, .ccf), (0xC3, .jpA16 w),
   (0xC9, .ret), (0xCD, .callA16 w), (0xE0, .ldhAtA8A d), (0xE2, .ldAtCA), (0xE8, .addSpE8 d), (0xE9, .jpHl),
   (0xEA, .ldAtA16A w), (0xF0, .ldhAAtA8 d), (0xF2, .ldAAtC), (0xF8, .ldHlSpE8 d), (0xF9, .ldSpHl), (0xFA, .ldAAtA16 w)]

end Sys2Proof.Claims

open Sys2Proof Sys2Proof.Machine Sys2Proof.Claims

/-! ## State, registers and memory -/

/-- The values at creation (R37), the pairs BC, DE and HL at the defaults of their parameters. That all memory reads as
zero rests on the empty image, the model's choice (log entry 6): R10 gives IMAGE no default. -/
def Obligations.ResetValues : Prop :=
  State.reset.get8 .a = 0x01 ∧ State.reset.get8 .f = 0xB0 ∧ State.reset.bc = 0x0013 ∧ State.reset.de = 0x00D8 ∧
  State.reset.hl = 0x014D ∧ State.reset.sp = 0xFFFE ∧ State.reset.pc = 0x0100 ∧ State.reset.cycles = 0 ∧
  State.reset.opcode = 0x00 ∧ State.reset.unknownCount = 0 ∧ State.reset.status = .running ∧
  State.reset.diag = [] ∧ ∀ x, State.reset.readByte x = 0x00

/-- The invariant that `EveryStepKeepsInvariant` is about holds right after reset. Its first clause, the canonical form of
the memory, is the model's own (log entry 7). -/
def Obligations.ResetMeetsInvariant : Prop := State.reset.Inv

/-- The dual view (R23): a pair is its two halves; a half reads as last written and writing it moves no other half; a pair
reads as last written, and writing it moves no other register. That a write of `F` or of `AF` keeps bits 3:0 zero is the
model's reading of R26 (log entry 10). -/
def Obligations.PairAndHalvesAgree : Prop :=
  ∀ (s : State),
    (s.get16 .af).toNat = (s.get8 .a).toNat * 256 + (s.get8 .f).toNat ∧
    (s.get16 .bc).toNat = (s.get8 .b).toNat * 256 + (s.get8 .c).toNat ∧
    (s.get16 .de).toNat = (s.get8 .d).toNat * 256 + (s.get8 .e).toNat ∧
    (s.get16 .hl).toNat = (s.get8 .h).toNat * 256 + (s.get8 .l).toNat ∧
    (∀ r v, (s.set8 r v).get8 r = (if r = .f then v &&& 0xF0 else v) ∧
      ∀ q, q ≠ r → (s.set8 r v).get8 q = s.get8 q) ∧
    (∀ r v, (s.set16 r v).get16 r = (if r = .af then v &&& 0xFFF0 else v) ∧
      ∀ q, q ≠ r → (s.set16 r v).get16 q = s.get16 q)

/-- The flags are bits 7, 6, 5 and 4 of `F` (R26), and writing one flag writes that one bit (R12), whatever bits 3:0 of
`F` are (log entry 10). -/
def Obligations.FlagsAreTheTopBitsOfF : Prop :=
  ∀ (s : State),
    s.flag .z = (s.get8 .f).getLsbD 7 ∧ s.flag .n = (s.get8 .f).getLsbD 6 ∧
    s.flag .h = (s.get8 .f).getLsbD 5 ∧ s.flag .c = (s.get8 .f).getLsbD 4 ∧
    ∀ (f : Flag) (b : Bool),
      (s.setFlag f b).flag f = b ∧ (∀ g, g ≠ f → (s.setFlag f b).flag g = s.flag g) ∧
      (∀ r, r ≠ Reg8.f → (s.setFlag f b).get8 r = s.get8 r) ∧
      (∀ i, i < 4 → ((s.setFlag f b).get8 .f).getLsbD i = (s.get8 .f).getLsbD i)

/-- A byte write at or above the boundary is seen at its address alone; below the boundary it changes no byte and adds
one warning. Nothing else changes (R54, R55). -/
def Obligations.ByteWriteIsSeenOrRefused : Prop :=
  ∀ (s : State) (a : Word) (v : Byte),
    StoresByte s (s.writeByte a v) a v ∧
    s.writeByte a v = { s with mem := (s.writeByte a v).mem, diag := (s.writeByte a v).diag }

/-- A word is read low byte first and its second address wraps (R53); a word write stores the low byte first, and the
whole word is refused if its first byte is read-only (R56). Nothing else changes. -/
def Obligations.WordsAreLittleEndian : Prop :=
  ∀ (s : State) (a : Word) (v : Word),
    (s.readWord a).toNat = (s.readByte (a + 1)).toNat * 256 + (s.readByte a).toNat ∧
    StoresWord s (s.writeWord a v) a v ∧
    s.writeWord a v = { s with mem := (s.writeWord a v).mem, diag := (s.writeWord a v).diag }

/-- An image of at most 0x8000 bytes stands from address 0 on and zeros follow it (R61), with the registers as at creation
(R37); a longer image, or none, is refused and there is no state (R332). The invariant that holds then has the canonical
form of the memory in it, which is the model's own (log entry 7). -/
def Obligations.ImageIsLoadedOrRefused : Prop :=
  ∀ (build : Build) (boot : BootRegs) (image : List Byte),
    create build boot none = .error (.imageRefused none) ∧
    (image.length > 0x8000 → create build boot (some image) = .error (.imageRefused (some image.length))) ∧
    (image.length ≤ 0x8000 → ∃ t, create build boot (some image) = .ok t ∧ t.Inv ∧
      (∀ x : Word, t.readByte x = image.getD x.toNat 0x00) ∧
      t = { State.reset with bc := boot.bc, de := boot.de, hl := boot.hl, mem := t.mem, build := build })

/-! ## The 8-bit ALU -/

/-- ADD (R125 to R127): the sum modulo 256, Z, N = 0, H from the low nibbles, C from the whole sum (R120). -/
def Obligations.AddResultAndFlags : Prop :=
  ∀ (s : State) (k : Byte), ∀ x ∈ aluForms .addAB .addAC .addAD .addAE .addAH .addAL .addAA .addAAtHl (.addAD8 k) s k,
    exec x.instr s = .next (aluAfter s x (BitVec.ofNat 8 ((s.get8 .a).toNat + x.src.toNat))
      (fOf (decide (((s.get8 .a).toNat + x.src.toNat) % 256 = 0)) false
        (decide ((s.get8 .a).toNat % 16 + x.src.toNat % 16 > 15))
        (decide ((s.get8 .a).toNat + x.src.toNat > 255))))

/-- ADC (R128 to R130): the carry flag is an addend of the result, of H and of C (R120). -/
def Obligations.AdcResultAndFlags : Prop :=
  ∀ (s : State) (k : Byte), ∀ x ∈ aluForms .adcAB .adcAC .adcAD .adcAE .adcAH .adcAL .adcAA .adcAAtHl (.adcAD8 k) s k,
    exec x.instr s = .next (aluAfter s x (BitVec.ofNat 8 ((s.get8 .a).toNat + x.src.toNat + (s.flag .c).toNat))
      (fOf (decide (((s.get8 .a).toNat + x.src.toNat + (s.flag .c).toNat) % 256 = 0)) false
        (decide ((s.get8 .a).toNat % 16 + x.src.toNat % 16 + (s.flag .c).toNat > 15))
        (decide ((s.get8 .a).toNat + x.src.toNat + (s.flag .c).toNat > 255))))

/-- SUB (R131 to R133): the difference modulo 256, Z, N = 1, H and C the borrows (R121). -/
def Obligations.SubResultAndFlags : Prop :=
  ∀ (s : State) (k : Byte), ∀ x ∈ aluForms .subB .subC .subD .subE .subH .subL .subA .subAtHl (.subD8 k) s k,
    exec x.instr s = .next (aluAfter s x (BitVec.ofNat 8 ((s.get8 .a).toNat + 256 - x.src.toNat))
      (fOf (decide ((s.get8 .a).toNat = x.src.toNat)) true
        (decide (x.src.toNat % 16 > (s.get8 .a).toNat % 16))
        (decide (x.src.toNat > (s.get8 .a).toNat))))

/-- SBC (R134 to R136): the carry flag is borrowed too, in the result and in both comparisons (R121). -/
def Obligations.SbcResultAndFlags : Prop :=
  ∀ (s : State) (k : Byte), ∀ x ∈ aluForms .sbcAB .sbcAC .sbcAD .sbcAE .sbcAH .sbcAL .sbcAA .sbcAAtHl (.sbcAD8 k) s k,
    exec x.instr s = .next
      (aluAfter s x (BitVec.ofNat 8 ((s.get8 .a).toNat + 512 - x.src.toNat - (s.flag .c).toNat))
        (fOf (decide (((s.get8 .a).toNat + 512 - x.src.toNat - (s.flag .c).toNat) % 256 = 0)) true
          (decide (x.src.toNat % 16 + (s.flag .c).toNat > (s.get8 .a).toNat % 16))
          (decide (x.src.toNat + (s.flag .c).toNat > (s.get8 .a).toNat))))

/-- AND (R137 to R139): flags Z 0 1 0 (R122). -/
def Obligations.AndResultAndFlags : Prop :=
  ∀ (s : State) (k : Byte), ∀ x ∈ aluForms .andB .andC .andD .andE .andH .andL .andA .andAtHl (.andD8 k) s k,
    exec x.instr s = .next (aluAfter s x (s.get8 .a &&& x.src)
      (fOf ((List.range 8).all fun i => !((s.get8 .a).getLsbD i && x.src.getLsbD i)) false true false))

/-- XOR (R140 to R142): flags Z 0 0 0 (R122); the result is zero exactly where the operands are equal. -/
def Obligations.XorResultAndFlags : Prop :=
  ∀ (s : State) (k : Byte), ∀ x ∈ aluForms .xorB .xorC .xorD .xorE .xorH .xorL .xorA .xorAtHl (.xorD8 k) s k,
    exec x.instr s = .next (aluAfter s x (s.get8 .a ^^^ x.src)
      (fOf (decide (s.get8 .a = x.src)) false false false))

/-- OR (R143 to R145): flags Z 0 0 0 (R122); the result is zero exactly where both operands are. -/
def Obligations.OrResultAndFlags : Prop :=
  ∀ (s : State) (k : Byte), ∀ x ∈ aluForms .orB .orC .orD .orE .orH .orL .orA .orAtHl (.orD8 k) s k,
    exec x.instr s = .next (aluAfter s x (s.get8 .a ||| x.src)
      (fOf (decide (s.get8 .a = 0 ∧ x.src = 0)) false false false))

/-- CP (R146 to R148): the flags of SUB, with `A` unchanged. -/
def Obligations.CpFlagsOnly : Prop :=
  ∀ (s : State) (k : Byte), ∀ x ∈ aluForms .cpB .cpC .cpD .cpE .cpH .cpL .cpA .cpAtHl (.cpD8 k) s k,
    exec x.instr s = .next (aluAfter s x (s.get8 .a)
      (fOf (decide ((s.get8 .a).toNat = x.src.toNat)) true
        (decide (x.src.toNat % 16 > (s.get8 .a).toNat % 16))
        (decide (x.src.toNat > (s.get8 .a).toNat))))

/-- INC r (R149) and DEC r (R151): Z, N and H as computed; C as before in a build that preserves it, and the carry or
borrow in a build that computes it (R123). -/
def Obligations.IncDecRegister : Prop :=
  ∀ (s : State),
    (∀ x ∈ ([(.incB, .b), (.incC, .c), (.incD, .d), (.incE, .e), (.incH, .h), (.incL, .l), (.incA, .a)] :
        List (Instr × Reg8)),
      exec x.1 s = .next (past (withF (s.set8 x.2 (BitVec.ofNat 8 ((s.get8 x.2).toNat + 1)))
        (fWith (s.get8 .f) (decide ((s.get8 x.2).toNat = 255)) false (decide ((s.get8 x.2).toNat % 16 = 15))
          (if s.build.incDecCarry = .preserve then s.flag .c else decide ((s.get8 x.2).toNat = 255)))) 1 1)) ∧
    (∀ x ∈ ([(.decB, .b), (.decC, .c), (.decD, .d), (.decE, .e), (.decH, .h), (.decL, .l), (.decA, .a)] :
        List (Instr × Reg8)),
      exec x.1 s = .next (past (withF (s.set8 x.2 (BitVec.ofNat 8 ((s.get8 x.2).toNat + 255)))
        (fWith (s.get8 .f) (decide ((s.get8 x.2).toNat = 1)) true (decide ((s.get8 x.2).toNat % 16 = 0))
          (if s.build.incDecCarry = .preserve then s.flag .c else decide ((s.get8 x.2).toNat = 0)))) 1 1))

/-- INC (HL) (R150) and DEC (HL) (R152): the byte at HL, with the flags of the register forms; a refused write leaves the
flags as computed. -/
def Obligations.IncDecMemory : Prop :=
  ∀ (s : State),
    RunsStoringByte .incAtHl s
      (past (withF s (fWith (s.get8 .f) (decide ((s.readByte s.hl).toNat = 255)) false
        (decide ((s.readByte s.hl).toNat % 16 = 15))
        (if s.build.incDecCarry = .preserve then s.flag .c else decide ((s.readByte s.hl).toNat = 255)))) 1 3)
      s.hl (BitVec.ofNat 8 ((s.readByte s.hl).toNat + 1)) ∧
    RunsStoringByte .decAtHl s
      (past (withF s (fWith (s.get8 .f) (decide ((s.readByte s.hl).toNat = 1)) true
        (decide ((s.readByte s.hl).toNat % 16 = 0))
        (if s.build.incDecCarry = .preserve then s.flag .c else decide ((s.readByte s.hl).toNat = 0)))) 1 3)
      s.hl (BitVec.ofNat 8 ((s.readByte s.hl).toNat + 255))

/-- DAA (R153): the adjusted accumulator, Z, N as before, H = 0, C never cleared. -/
def Obligations.DaaAdjustsAccumulator : Prop :=
  ∀ (s : State),
    exec .daa s = .next (past (withAF s
      (BitVec.ofNat 8 (daaRes (s.get8 .a).toNat (s.flag .n) (s.flag .h) (s.flag .c)))
      (fWith (s.get8 .f) (decide (daaRes (s.get8 .a).toNat (s.flag .n) (s.flag .h) (s.flag .c) = 0)) (s.flag .n)
        false (daaCarry (s.get8 .a).toNat (s.flag .n) (s.flag .c)))) 1 1)

/-- CPL (R154), SCF (R155) and CCF (R156). -/
def Obligations.ComplementAndCarryFlag : Prop :=
  ∀ (s : State),
    exec .cpl s = .next (past (withAF s (BitVec.ofNat 8 (255 - (s.get8 .a).toNat))
      (fWith (s.get8 .f) (s.flag .z) true true (s.flag .c))) 1 1) ∧
    exec .scf s = .next (past (withF s (fWith (s.get8 .f) (s.flag .z) false false true)) 1 1) ∧
    exec .ccf s = .next (past (withF s (fWith (s.get8 .f) (s.flag .z) false false (!s.flag .c))) 1 1)

/-! ## Loads, stores and the stack -/

/-- LD r,r' (R162). -/
def Obligations.LoadRegisterFromRegister : Prop :=
  ∀ (s : State), ∀ x ∈ copyForms, exec x.1 s = .next (past (s.set8 x.2.1 (s.get8 x.2.2)) 1 1)

/-- The byte loads from memory: LD r,(HL) (R163), LD A,(BC) (R167), LD A,(DE) (R168), LD A,(a16) (R175), LDH A,(a8)
(R177) and LD A,(C) (R179), with their addresses in numbers. -/
def Obligations.LoadRegisterFromMemory : Prop :=
  ∀ (s : State) (a : Word) (k : Byte),
    (∀ x ∈ ([(.ldBAtHl, .b), (.ldCAtHl, .c), (.ldDAtHl, .d), (.ldEAtHl, .e),
        (.ldHAtHl, .h), (.ldLAtHl, .l), (.ldAAtHl, .a)] :
        List (Instr × Reg8)), exec x.1 s = .next (past (s.set8 x.2 (s.readByte s.hl)) 1 2)) ∧
    exec .ldAAtBc s = .next (past (s.set8 .a (s.readByte s.bc)) 1 2) ∧
    exec .ldAAtDe s = .next (past (s.set8 .a (s.readByte s.de)) 1 2) ∧
    exec (.ldAAtA16 a) s = .next (past (s.set8 .a (s.readByte a)) 3 4) ∧
    exec (.ldhAAtA8 k) s = .next (past (s.set8 .a (s.readByte (BitVec.ofNat 16 (0xFF00 + k.toNat)))) 2 3) ∧
    exec .ldAAtC s = .next (past (s.set8 .a (s.readByte (BitVec.ofNat 16 (0xFF00 + (s.get8 .c).toNat)))) 1 2)

/-- The byte stores: LD (HL),r (R164), LD (HL),d8 (R166), LD (BC),A (R169), LD (DE),A (R170), LD (a16),A (R176),
LDH (a8),A (R178) and LD (C),A (R180). No flag and no register changes. -/
def Obligations.StoreByteToMemory : Prop :=
  ∀ (s : State) (a : Word) (k : Byte),
    (∀ x ∈ ([(.ldAtHlB, .b), (.ldAtHlC, .c), (.ldAtHlD, .d), (.ldAtHlE, .e),
        (.ldAtHlH, .h), (.ldAtHlL, .l), (.ldAtHlA, .a)] :
        List (Instr × Reg8)), RunsStoringByte x.1 s (past s 1 2) s.hl (s.get8 x.2)) ∧
    RunsStoringByte (.ldAtHlD8 k) s (past s 2 3) s.hl k ∧
    RunsStoringByte .ldAtBcA s (past s 1 2) s.bc (s.get8 .a) ∧
    RunsStoringByte .ldAtDeA s (past s 1 2) s.de (s.get8 .a) ∧
    RunsStoringByte (.ldAtA16A a) s (past s 3 4) a (s.get8 .a) ∧
    RunsStoringByte (.ldhAtA8A k) s (past s 2 3) (BitVec.ofNat 16 (0xFF00 + k.toNat)) (s.get8 .a) ∧
    RunsStoringByte .ldAtCA s (past s 1 2) (BitVec.ofNat 16 (0xFF00 + (s.get8 .c).toNat)) (s.get8 .a)

/-- The forms that step HL (R171 to R174): the access is at the old HL, and HL moves by one, modulo 65536, even when the
store is refused. -/
def Obligations.LoadStoreSteppingHl : Prop :=
  ∀ (s : State),
    exec .ldAAtHlInc s =
      .next (past { s.set8 .a (s.readByte s.hl) with hl := BitVec.ofNat 16 (s.hl.toNat + 1) } 1 2) ∧
    exec .ldAAtHlDec s =
      .next (past { s.set8 .a (s.readByte s.hl) with hl := BitVec.ofNat 16 (s.hl.toNat + 65535) } 1 2) ∧
    RunsStoringByte .ldAtHlIncA s (past { s with hl := BitVec.ofNat 16 (s.hl.toNat + 1) } 1 2) s.hl (s.get8 .a) ∧
    RunsStoringByte .ldAtHlDecA s (past { s with hl := BitVec.ofNat 16 (s.hl.toNat + 65535) } 1 2) s.hl (s.get8 .a)

/-- LD r,d8 (R165), LD rr,d16 (R181) and LD SP,HL (R183). -/
def Obligations.LoadImmediate : Prop :=
  ∀ (s : State) (k : Byte) (d : Word),
    (∀ x ∈ ([((.ldBD8 k), .b), ((.ldCD8 k), .c), ((.ldDD8 k), .d), ((.ldED8 k), .e),
        ((.ldHD8 k), .h), ((.ldLD8 k), .l), ((.ldAD8 k), .a)] :
        List (Instr × Reg8)), exec x.1 s = .next (past (s.set8 x.2 k) 2 2)) ∧
    exec (.ldBcD16 d) s = .next (past { s with bc := d } 3 3) ∧
    exec (.ldDeD16 d) s = .next (past { s with de := d } 3 3) ∧
    exec (.ldHlD16 d) s = .next (past { s with hl := d } 3 3) ∧
    exec (.ldSpD16 d) s = .next (past { s with sp := d } 3 3) ∧
    exec .ldSpHl s = .next (past { s with sp := s.hl } 1 2)

/-- LD (a16),SP (R182). -/
def Obligations.StoreStackPointer : Prop :=
  ∀ (s : State) (a : Word), RunsStoringWord (.ldAtA16Sp a) s (past s 3 5) a s.sp

/-- LD HL,SP+e8 (R184) and ADD SP,e8 (R234): the signed sum, flags 0 0 H C from the unsigned low bytes (R230). -/
def Obligations.StackPointerPlusSignedByte : Prop :=
  ∀ (s : State) (e : Byte),
    exec (.ldHlSpE8 e) s = .next (past (withF { s with hl := BitVec.ofInt 16 (s.sp.toNat + e.toInt) }
      (fOf false false (decide (s.sp.toNat % 16 + e.toNat % 16 > 15))
        (decide (s.sp.toNat % 256 + e.toNat > 255)))) 2 3) ∧
    exec (.addSpE8 e) s = .next (past (withF { s with sp := BitVec.ofInt 16 (s.sp.toNat + e.toInt) }
      (fOf false false (decide (s.sp.toNat % 16 + e.toNat % 16 > 15))
        (decide (s.sp.toNat % 256 + e.toNat > 255)))) 2 4)

/-- PUSH rr (R185): SP goes down by 2, modulo 65536, and the register is stored as a word at the new SP (R160). -/
def Obligations.PushStoresPair : Prop :=
  ∀ (s : State),
    ∀ x ∈ ([(.pushBc, .bc), (.pushDe, .de), (.pushHl, .hl), (.pushAf, .af)] : List (Instr × Reg16)),
      RunsStoringWord x.1 s (past { s with sp := BitVec.ofNat 16 (s.sp.toNat + 65534) } 1 4)
        (BitVec.ofNat 16 (s.sp.toNat + 65534)) (s.get16 x.2)

/-- POP rr (R186) and POP AF (R187): the word at SP, low byte first, with SP up by 2 (R161); `F` keeps bits 7:4. -/
def Obligations.PopLoadsPair : Prop :=
  ∀ (s : State),
    exec .popBc s = .next (past { s with
      bc := mkWord (s.readByte (s.sp + 1)) (s.readByte s.sp), sp := BitVec.ofNat 16 (s.sp.toNat + 2) } 1 3) ∧
    exec .popDe s = .next (past { s with
      de := mkWord (s.readByte (s.sp + 1)) (s.readByte s.sp), sp := BitVec.ofNat 16 (s.sp.toNat + 2) } 1 3) ∧
    exec .popHl s = .next (past { s with
      hl := mkWord (s.readByte (s.sp + 1)) (s.readByte s.sp), sp := BitVec.ofNat 16 (s.sp.toNat + 2) } 1 3) ∧
    exec .popAf s = .next (past { s with
      af := mkWord (s.readByte (s.sp + 1)) (BitVec.ofNat 8 ((s.readByte s.sp).toNat / 16 * 16)),
      sp := BitVec.ofNat 16 (s.sp.toNat + 2) } 1 3)

/-! ## Control transfer -/

/-- JR e8 (R202) and JR cc,e8 (R203): the target is the fall-through address plus the signed byte (R201). -/
def Obligations.RelativeJumps : Prop :=
  ∀ (s : State) (e : Byte),
    exec (.jrE8 e) s = .next (goes s (BitVec.ofInt 16 (s.pc.toNat + 2 + e.toInt)) 3) ∧
    ∀ x ∈ ([((.jrNzE8 e), .nz), ((.jrZE8 e), .z), ((.jrNcE8 e), .nc), ((.jrCE8 e), .c)] : List (Instr × Cond)),
      exec x.1 s = .next
        (if holds s x.2 then goes s (BitVec.ofInt 16 (s.pc.toNat + 2 + e.toInt)) 3 else past s 2 2)

/-- JP a16 (R204), JP cc,a16 (R205) and JP HL (R206). -/
def Obligations.AbsoluteJumps : Prop :=
  ∀ (s : State) (a : Word),
    exec (.jpA16 a) s = .next (goes s a 4) ∧
    exec .jpHl s = .next (goes s s.hl 1) ∧
    ∀ x ∈ ([((.jpNzA16 a), .nz), ((.jpZA16 a), .z), ((.jpNcA16 a), .nc), ((.jpCA16 a), .c)] : List (Instr × Cond)),
      exec x.1 s = .next (if holds s x.2 then goes s a 4 else past s 3 3)

/-- CALL a16 (R207) and CALL cc,a16 (R208): the taken path pushes the fall-through address and goes to the target; the
other path changes neither SP nor memory. -/
def Obligations.CallsPushTheReturnAddress : Prop :=
  ∀ (s : State) (a : Word),
    RunsStoringWord (.callA16 a) s (goes { s with sp := BitVec.ofNat 16 (s.sp.toNat + 65534) } a 6)
      (BitVec.ofNat 16 (s.sp.toNat + 65534)) (s.pc + 3) ∧
    ∀ x ∈ ([((.callNzA16 a), .nz), ((.callZA16 a), .z), ((.callNcA16 a), .nc), ((.callCA16 a), .c)] :
        List (Instr × Cond)),
      if holds s x.2 then
        RunsStoringWord x.1 s (goes { s with sp := BitVec.ofNat 16 (s.sp.toNat + 65534) } a 6)
          (BitVec.ofNat 16 (s.sp.toNat + 65534)) (s.pc + 3)
      else exec x.1 s = .next (past s 3 3)

/-- RET (R209) and RET cc (R210): the taken path goes to the word at SP, with SP up by 2. -/
def Obligations.ReturnsPopTheTarget : Prop :=
  ∀ (s : State),
    exec .ret s = .next (goes { s with sp := BitVec.ofNat 16 (s.sp.toNat + 2) }
      (mkWord (s.readByte (s.sp + 1)) (s.readByte s.sp)) 4) ∧
    ∀ x ∈ ([(.retNz, .nz), (.retZ, .z), (.retNc, .nc), (.retC, .c)] : List (Instr × Cond)),
      exec x.1 s = .next
        (if holds s x.2 then
          goes { s with sp := BitVec.ofNat 16 (s.sp.toNat + 2) } (mkWord (s.readByte (s.sp + 1)) (s.readByte s.sp)) 5
        else past s 1 2)

/-- RST n (R211): the address of the next byte is pushed, and `pc` becomes one of the eight fixed targets. -/
def Obligations.RestartsCallFixedTargets : Prop :=
  ∀ (s : State),
    ∀ x ∈ ([(.rst00, 0x0000), (.rst08, 0x0008), (.rst10, 0x0010), (.rst18, 0x0018),
        (.rst20, 0x0020), (.rst28, 0x0028), (.rst30, 0x0030), (.rst38, 0x0038)] :
        List (Instr × Word)),
      RunsStoringWord x.1 s (goes { s with sp := BitVec.ofNat 16 (s.sp.toNat + 65534) } x.2 4)
        (BitVec.ofNat 16 (s.sp.toNat + 65534)) (s.pc + 1)

/-! ## 16-bit arithmetic -/

/-- INC rr (R231) and DEC rr (R232): modulo 65536, no flag. -/
def Obligations.IncDecPair : Prop :=
  ∀ (s : State),
    exec .incBc s = .next (past { s with bc := BitVec.ofNat 16 (s.bc.toNat + 1) } 1 2) ∧
    exec .incDe s = .next (past { s with de := BitVec.ofNat 16 (s.de.toNat + 1) } 1 2) ∧
    exec .incHl s = .next (past { s with hl := BitVec.ofNat 16 (s.hl.toNat + 1) } 1 2) ∧
    exec .incSp s = .next (past { s with sp := BitVec.ofNat 16 (s.sp.toNat + 1) } 1 2) ∧
    exec .decBc s = .next (past { s with bc := BitVec.ofNat 16 (s.bc.toNat + 65535) } 1 2) ∧
    exec .decDe s = .next (past { s with de := BitVec.ofNat 16 (s.de.toNat + 65535) } 1 2) ∧
    exec .decHl s = .next (past { s with hl := BitVec.ofNat 16 (s.hl.toNat + 65535) } 1 2) ∧
    exec .decSp s = .next (past { s with sp := BitVec.ofNat 16 (s.sp.toNat + 65535) } 1 2)

/-- ADD HL,rr (R233): the sum modulo 65536, Z kept, N = 0, the carries out of bits 11 and 15. -/
def Obligations.AddPairToHl : Prop :=
  ∀ (s : State),
    ∀ x ∈ ([(.addHlBc, .bc), (.addHlDe, .de), (.addHlHl, .hl), (.addHlSp, .sp)] : List (Instr × Reg16)),
      exec x.1 s = .next (past (withF { s with hl := BitVec.ofNat 16 (s.hl.toNat + (s.get16 x.2).toNat) }
        (fWith (s.get8 .f) (s.flag .z) false (decide (s.hl.toNat % 4096 + (s.get16 x.2).toNat % 4096 > 4095))
          (decide (s.hl.toNat + (s.get16 x.2).toNat > 65535)))) 1 2)

/-! ## Rotates, shifts and bits -/

/-- RLCA, RRCA, RLA and RRA (R251 to R254): Z is forced to 0. -/
def Obligations.AccumulatorRotates : Prop :=
  ∀ (s : State),
    ∀ x ∈ ([(.rlca, .rlc), (.rrca, .rrc), (.rla, .rl), (.rra, .rr)] : List (Instr × ShiftOp)),
      exec x.1 s = .next (past (withAF s (shiftRes x.2 (s.get8 .a) (s.flag .c))
        (fOf false false false (shiftCarry x.2 (s.get8 .a) (s.flag .c)))) 1 1)

/-- The secondary rotates and shifts of a register (R250, R256 to R270): flags Z 0 0 C. -/
def Obligations.ShiftsOfRegisters : Prop :=
  ∀ (s : State), ∀ x ∈ shiftRegForms,
    exec x.1 s = .next (past (withF (s.set8 x.2.2 (shiftRes x.2.1 (s.get8 x.2.2) (s.flag .c)))
      (fOf (decide ((shifted x.2.1 (s.get8 x.2.2).toNat (s.flag .c)).1 = 0)) false false
        (shiftCarry x.2.1 (s.get8 x.2.2) (s.flag .c)))) 2 2)

/-- The secondary rotates and shifts of the byte at HL (R250, R257 to R271): the flags are written even when the write
is refused (R255). -/
def Obligations.ShiftsOfMemory : Prop :=
  ∀ (s : State), ∀ x ∈ shiftMemForms,
    RunsStoringByte x.1 s
      (past (withF s (fOf (decide ((shifted x.2 (s.readByte s.hl).toNat (s.flag .c)).1 = 0)) false false
        (shiftCarry x.2 (s.readByte s.hl) (s.flag .c)))) 2 4)
      s.hl (shiftRes x.2 (s.readByte s.hl) (s.flag .c))

/-- BIT b,r (R272) and BIT b,(HL) (R273): flags Z 0 1 -, and nothing is written but `F`. -/
def Obligations.BitTests : Prop :=
  ∀ (s : State),
    (∀ x ∈ bitRegForms, exec x.1 s = .next (past (withF s
      (fWith (s.get8 .f) (!(s.get8 x.2.2).getLsbD x.2.1) false true (s.flag .c))) 2 2)) ∧
    (∀ x ∈ bitMemForms, exec x.1 s = .next (past (withF s
      (fWith (s.get8 .f) (!(s.readByte s.hl).getLsbD x.2) false true (s.flag .c))) 2 3))

/-- RES b,r (R274) and SET b,r (R276): no flag changes. -/
def Obligations.BitWritesToRegisters : Prop :=
  ∀ (s : State),
    (∀ x ∈ resRegForms, exec x.1 s = .next (past (s.set8 x.2.2 (bitCleared (s.get8 x.2.2) x.2.1)) 2 2)) ∧
    (∀ x ∈ setRegForms, exec x.1 s = .next (past (s.set8 x.2.2 (bitRaised (s.get8 x.2.2) x.2.1)) 2 2))

/-- RES b,(HL) (R275) and SET b,(HL) (R277): the write is attempted even when the value does not change. -/
def Obligations.BitWritesToMemory : Prop :=
  ∀ (s : State),
    (∀ x ∈ resMemForms, RunsStoringByte x.1 s (past s 2 4) s.hl (bitCleared (s.readByte s.hl) x.2)) ∧
    (∀ x ∈ setMemForms, RunsStoringByte x.1 s (past s 2 4) s.hl (bitRaised (s.readByte s.hl) x.2))

/-! ## NOP, the gap bytes, the illegal bytes and the 0xCB cell -/

/-- NOP (R280). -/
def Obligations.NopOnlyAdvances : Prop := ∀ (s : State), exec .nop s = .next (past s 1 1)

/-- HALT, STOP, DI, EI, RETI (R281 to R285) and the illegal bytes (R286) run the unknown-opcode handler (R106, R107): the
event is logged; under the strict policy the run ends fatally; under the permissive one the count goes up, and the run
ends fatally past 100, else `pc` moves by the build's 0 or 1. No register, flag, byte or cycle changes. That the count
goes up in the fatal state too is the model's reading of R106 beside R305 (log entry 11). -/
def Obligations.GapAndIllegalBytesAreUnknown : Prop :=
  ∀ (s : State), ∀ x ∈ unknownForms,
    (s.build.unknownPolicy = .strict → exec x.1 s = .next { s with
      diag := s.diag ++ [.unknownOpcode .primary x.2 s.pc],
      status := .fatal (.unknownOpcode .primary x.2 s.pc) }) ∧
    (s.build.unknownPolicy = .permissive → s.unknownCount ≥ 100 → exec x.1 s = .next { s with
      diag := s.diag ++ [.unknownOpcode .primary x.2 s.pc], unknownCount := s.unknownCount + 1,
      status := .fatal (.unknownBoundExceeded .primary x.2 s.pc) }) ∧
    (s.build.unknownPolicy = .permissive → s.unknownCount < 100 → exec x.1 s = .next { s with
      diag := s.diag ++ [.unknownOpcode .primary x.2 s.pc], unknownCount := s.unknownCount + 1,
      pc := BitVec.ofNat 16 (s.pc.toNat + s.build.unknownPcAdvance.val) })

/-- The 0xCB cell as a constructor of its own, which is the model's choice (log entry 3): the byte after it is fetched into
`opcode` (R103); its entry runs if the build populates it, after the count is cleared, and else the unknown-opcode handler
runs for it (R288). -/
def Obligations.PrefixRunsTheSecondaryEntry : Prop :=
  ∀ (s : State),
    (populated s.build.populated (.cb, s.readByte (s.pc + 1)) = true →
      (∃ t, exec .prefixCb s = .next t) ∧
      exec .prefixCb s = exec (secondaryInstr (s.readByte (s.pc + 1)))
        { s with opcode := s.readByte (s.pc + 1), unknownCount := 0 }) ∧
    (populated s.build.populated (.cb, s.readByte (s.pc + 1)) = false →
      exec .prefixCb s = .next (({ s with opcode := s.readByte (s.pc + 1) }).unknown .cb (s.readByte (s.pc + 1))))

/-! ## The step -/

/-- When the bytes at `pc` decode to a whole instruction, a step of a running state is that instruction's meaning, after
`opcode` has taken the byte the table was indexed by and the count is cleared, if the build populates the entry; else it
is the unknown-opcode handler for the entry (R100 to R106). -/
def Obligations.StepRunsTheDecodedInstruction : Prop :=
  ∀ (s : State) (i : Instr) (rest : List Byte),
    s.status = .running →
    decode [s.readByte s.pc, s.readByte (s.pc + 1), s.readByte (s.pc + 2)] = .ok (i, rest) →
    i.wellFormed = true →
    step s =
      if populated s.build.populated (entryAt s) then exec i { s with opcode := (entryAt s).2, unknownCount := 0 }
      else .next (({ s with opcode := (entryAt s).2 }).unknown (entryAt s).1 (entryAt s).2)

/-- A running state always has a next state (R100, R104), and a state that is not running has none (R34). -/
def Obligations.OnlyRunningStatesStep : Prop :=
  ∀ (s : State),
    (s.status = .running → ∃ t, step s = .next t) ∧ (s.status ≠ .running → step s = .fault .notRunning)

/-- A populated handler cannot fail (R104): the step ends running, with the count cleared and `opcode` holding the byte
the table was indexed by. -/
def Obligations.PopulatedHandlersKeepRunning : Prop :=
  ∀ (s : State), s.status = .running → populated s.build.populated (entryAt s) = true →
    ∃ t, step s = .next t ∧ t.status = .running ∧ t.unknownCount = 0 ∧ t.opcode = (entryAt s).2

/-- The fatal stop is precise (R301, R305): under the strict policy, a step on an unpopulated entry changes only `status`,
`diag` and `opcode`; under the permissive one, past the bound, also `unknown_count`, which is the model's
reading of R106 beside R305 (log entry 11). The recorded `pc` is the
address of the first byte fetched, and `pc`, the registers, the memory and `cycles` keep their values. -/
def Obligations.FatalStopIsPrecise : Prop :=
  ∀ (s : State), s.status = .running → populated s.build.populated (entryAt s) = false →
    (s.build.unknownPolicy = .strict → step s = .next { s with
      opcode := (entryAt s).2,
      diag := s.diag ++ [.unknownOpcode (entryAt s).1 (entryAt s).2 s.pc],
      status := .fatal (.unknownOpcode (entryAt s).1 (entryAt s).2 s.pc) }) ∧
    (s.build.unknownPolicy = .permissive → s.unknownCount ≥ 100 → step s = .next { s with
      opcode := (entryAt s).2,
      unknownCount := s.unknownCount + 1,
      diag := s.diag ++ [.unknownOpcode (entryAt s).1 (entryAt s).2 s.pc],
      status := .fatal (.unknownBoundExceeded (entryAt s).1 (entryAt s).2 s.pc) })

/-- The permissive bound (R107, the part the spec derives from R106): where `pc` does not
advance, 100 steps on an unpopulated entry leave the core running at the same address, and the 101st is fatal, with 101
events logged. That the count is 101 then is log entry 11. -/
def Obligations.PermissiveRunEndsAtTheBound : Prop :=
  ∀ (s : State), s.status = .running → s.build.unknownPolicy = .permissive → s.build.unknownPcAdvance = 0 →
    s.unknownCount = 0 → populated s.build.populated (entryAt s) = false →
    (∀ n, 1 ≤ n → n ≤ 100 → Host.Core.run Sys2Proof.core n s = .next { s with
      opcode := (entryAt s).2, unknownCount := n,
      diag := s.diag ++ List.replicate n (.unknownOpcode (entryAt s).1 (entryAt s).2 s.pc) }) ∧
    Host.Core.run Sys2Proof.core 101 s = .next { s with
      opcode := (entryAt s).2, unknownCount := 101,
      diag := s.diag ++ List.replicate 101 (.unknownOpcode (entryAt s).1 (entryAt s).2 s.pc),
      status := .fatal (.unknownBoundExceeded (entryAt s).1 (entryAt s).2 s.pc) }

/-! ## Whole-machine rules -/

/-- The invariant of `Safety`: canonical memory (the model's own, log entry 7), bits 3:0 of `F` zero (R26),
`unknown_count` in its range (R20), 101 only in a fatal state (log entry 11). Every step from any state that meets it
keeps it. -/
def Obligations.EveryStepKeepsInvariant : Prop :=
  ∀ (s t : State), s.Inv → step s = .next t → t.Inv

/-- The read-only region cannot be changed by the core (R63). -/
def Obligations.RomNeverChanges : Prop :=
  ∀ (s t : State), step s = .next t → ∀ x : Word, x.toNat < 0x8000 → t.readByte x = s.readByte x

/-- A step changes no byte but those its instruction stores to, whose addresses `storesOf` computes from the state before
it. -/
def Obligations.StepStoresOnlyWhereItsInstructionSays : Prop :=
  ∀ (s t : State), step s = .next t → ∀ x : Word, x ∉ storesOf s.fetchInstr s → t.readByte x = s.readByte x

/-- The cycle counter never goes down (R31): a populated handler adds 1 to 6, the unknown-opcode handler adds nothing. -/
def Obligations.CyclesOnlyGrow : Prop :=
  ∀ (s t : State), step s = .next t →
    if populated s.build.populated (entryAt s) then s.cycles + 1 ≤ t.cycles ∧ t.cycles ≤ s.cycles + 6
    else t.cycles = s.cycles

/-- No step changes the build (R38, R108, R110), takes an event back out of the stream (R35), or quits, which only the
host does (R344). -/
def Obligations.StepsKeepTheBuildAndTheStream : Prop :=
  ∀ (s t : State), step s = .next t → t.build = s.build ∧ s.diag <+: t.diag ∧ t.status ≠ .quit

/-- The host's loop (R343) never meets a fault, and it ends in `quit` only where the host asked for it. -/
def Obligations.RunLoopEndsWithoutFault : Prop :=
  ∀ (quits : List Bool) (s : State),
    (∃ t, runLoop quits s = .next t) ∧
    (s.status ≠ .quit → true ∉ quits → ∀ t, runLoop quits s = .next t → t.status ≠ .quit) ∧
    (s.status = .running → runLoop (true :: quits) s = .next { s with status := .quit }) ∧
    (s.status ≠ .running → runLoop quits s = .next s)

/-! ## Encoding -/

/-- Decoding an encoded instruction gives it back, with every operand, and leaves the bytes that follow it. The one term
that is no whole instruction is the model's choice (log entry 3). -/
def Obligations.DecodeOfEncode : Prop :=
  ∀ (i : Instr) (rest : List Byte), i.wellFormed = true → decode (encode i ++ rest) = .ok (i, rest)

/-- Each byte string has one meaning: what decodes is the encoding of what it decodes to, then the rest. An instruction
is one to three bytes (R80). -/
def Obligations.EncodeOfDecode : Prop :=
  ∀ (bytes rest : List Byte) (i : Instr), decode bytes = .ok (i, rest) →
    encode i ++ rest = bytes ∧ 1 ≤ (encode i).length ∧ (encode i).length ≤ 3

/-- The decoding of the primary map by its fields, and of the secondary one. In 0x40 to 0x7F, but for 0x76, the destination
is bits 5:3 and the source bits 2:0, 6 being the byte at HL (R82); in 0x80 to 0xBF the operation is bits 5:3 and the
operand bits 2:0 (R82, R85). In `fieldRows` one field runs: `r8` in bits 5:3 (R82), `rr` in bits 5:4 (R83), `cc` in bits
4:3 (R84), the restart number (R92) and the operation of the immediate forms (R85) in bits 5:3. `fixedCells` and
`unknownForms` hold the cells without a field (R87, R89, R90). After 0xCB the fields of the sub-opcode are its group, its
function or bit, and its operand (R85). `decode` reads what `decodeBytes` does. -/
def Obligations.OperandFieldsDecode : Prop :=
  ∀ (s : State) (b b1 b2 : Byte),
    (∃ rest, decode [b, b1, b2] = .ok (decodeBytes b b1 b2, rest)) ∧
    (∀ f ∈ fieldRows b1 (mkWord b2 b1), ∀ x ∈ f.instrs.zipIdx,
      decodeBytes (BitVec.ofNat 8 (f.base + f.stride * x.2)) b1 b2 = x.1) ∧
    (∀ x ∈ fixedCells b1 (mkWord b2 b1), decodeBytes x.1 b1 b2 = x.2) ∧
    (∀ x ∈ unknownForms, decodeBytes x.2 b1 b2 = x.1) ∧
    decodeBytes 0x76 b1 b2 = .halt ∧
    (b.toNat / 64 = 1 → ∀ dst src, reg8Of (b.toNat / 8 % 8) = some dst → reg8Of (b.toNat % 8) = some src →
      exec (decodeBytes b b1 b2) s = .next (past (s.set8 dst (s.get8 src)) 1 1)) ∧
    (b.toNat / 64 = 1 → ∀ dst, reg8Of (b.toNat / 8 % 8) = some dst → b.toNat % 8 = 6 →
      exec (decodeBytes b b1 b2) s = .next (past (s.set8 dst (s.readByte s.hl)) 1 2)) ∧
    (b.toNat / 64 = 1 → ∀ src, b.toNat / 8 % 8 = 6 → reg8Of (b.toNat % 8) = some src →
      exec (decodeBytes b b1 b2) s = .next ((s.writeByte s.hl (s.get8 src)).retire 1 2)) ∧
    (b.toNat / 64 = 2 → ∀ src, reg8Of (b.toNat % 8) = some src →
      exec (decodeBytes b b1 b2) s = .next ((s.aluWrite (aluOpOf (b.toNat / 8 % 8)) (s.get8 src)).retire 1 1)) ∧
    (b.toNat / 64 = 2 → b.toNat % 8 = 6 →
      exec (decodeBytes b b1 b2) s = .next ((s.aluWrite (aluOpOf (b.toNat / 8 % 8)) (s.readByte s.hl)).retire 1 2)) ∧
    (b.toNat / 64 = 3 → b.toNat % 8 = 6 →
      exec (decodeBytes b b1 b2) s = .next ((s.aluWrite (aluOpOf (b.toNat / 8 % 8)) b1).retire 2 2)) ∧
    exec (decodeBytes 0xCB b b2) s = .next (secondaryHandler b s)

/-- A few words, written out from the encodings of the rules, one or more of each family's file, decode to the instructions
they stand for. -/
def Obligations.KnownWordsDecode : Prop :=
  decode [0b00000000] = .ok (.nop, []) ∧
  decode [0b00111110, 0x2A] = .ok (.ldAD8 0x2A, []) ∧
  decode [0b00000001, 0x34, 0x12] = .ok (.ldBcD16 0x1234, []) ∧
  decode [0b01010000] = .ok (.ldDB, []) ∧
  decode [0b10000110] = .ok (.addAAtHl, []) ∧
  decode [0b00100000, 0x05] = .ok (.jrNzE8 0x05, []) ∧
  decode [0b11001101, 0x00, 0x02] = .ok (.callA16 0x0200, []) ∧
  decode [0b11111111] = .ok (.rst38, []) ∧
  decode [0b00110011] = .ok (.incSp, []) ∧
  decode [0b00011011] = .ok (.decDe, []) ∧
  decode [0b00101001] = .ok (.addHlHl, []) ∧
  decode [0b11101000, 0x08] = .ok (.addSpE8 0x08, []) ∧
  decode [0b00010111] = .ok (.rla, []) ∧
  decode [0xCB, 0b01111100] = .ok (.bit7H, []) ∧
  decode [0xCB, 0xCB] = .ok (.set1E, []) ∧
  decode [0b01110110] = .ok (.halt, []) ∧
  decode [0xDD] = .ok (.illegalDD, [])

/-- The two profiles of R86 in numbers: 193 primary entries and no secondary one; 193 + 46 primary entries and all 256
secondary ones. Neither holds a gap byte or an illegal byte. -/
def Obligations.ProfilesHaveTheirEntries : Prop :=
  ((List.range 256).countP fun n => populated .docNamed (.primary, BitVec.ofNat 8 n)) = 193 ∧
  ((List.range 256).countP fun n => populated .docNamed (.cb, BitVec.ofNat 8 n)) = 0 ∧
  ((List.range 256).countP fun n => populated .full (.primary, BitVec.ofNat 8 n)) = 239 ∧
  ((List.range 256).countP fun n => populated .full (.cb, BitVec.ofNat 8 n)) = 256 ∧
  ∀ (p : Populated), ∀ x ∈ unknownForms, populated p (.primary, x.2) = false
end

