-- ==== Sys2Proof/Laws/Bits.lean ====
section
/-! SUPPORT. Laws of the bit helpers: halves of a word, single bits of a byte, the flag byte. -/

namespace Sys2Proof.Machine

theorem toNat_mkWord (h l : Byte) : (mkWord h l).toNat = h.toNat * 256 + l.toNat := by
  have e : (mkWord h l).toNat = h.toNat <<< 8 ||| l.toNat := BitVec.toNat_append h l
  rw [e, Nat.shiftLeft_eq, Nat.mul_comm, ← Nat.two_pow_add_eq_or_of_lt l.isLt]

theorem toNat_hiByte (w : Word) : (hiByte w).toNat = w.toNat / 256 := by
  have := w.isLt
  simp only [hiByte, BitVec.extractLsb'_toNat, Nat.shiftRight_eq_div_pow]
  omega

theorem toNat_loByte (w : Word) : (loByte w).toNat = w.toNat % 256 := by
  simp [loByte, BitVec.extractLsb'_toNat]

@[simp] theorem hiByte_mkWord (h l : Byte) : hiByte (mkWord h l) = h := by
  have := l.isLt
  apply BitVec.eq_of_toNat_eq
  rw [toNat_hiByte, toNat_mkWord]
  omega

@[simp] theorem loByte_mkWord (h l : Byte) : loByte (mkWord h l) = l := by
  have := l.isLt
  apply BitVec.eq_of_toNat_eq
  rw [toNat_loByte, toNat_mkWord]
  omega

@[simp] theorem mkWord_hiByte_loByte (w : Word) : mkWord (hiByte w) (loByte w) = w := by
  apply BitVec.eq_of_toNat_eq
  rw [toNat_mkWord, toNat_hiByte, toNat_loByte]
  omega

/-- A word is its two halves. -/
theorem word_eq_of_halves {v w : Word} (hh : hiByte v = hiByte w) (hl : loByte v = loByte w) : v = w := by
  rw [← mkWord_hiByte_loByte v, ← mkWord_hiByte_loByte w, hh, hl]

theorem mkWord_inj {h l h' l' : Byte} : mkWord h l = mkWord h' l' ↔ h = h' ∧ l = l' := by
  constructor
  · intro e
    exact ⟨by simpa using congrArg hiByte e, by simpa using congrArg loByte e⟩
  · rintro ⟨rfl, rfl⟩; rfl

theorem getLsbD_hiByte (w : Word) (i : Nat) (hi : i < 8) : (hiByte w).getLsbD i = w.getLsbD (8 + i) := by
  simp [hiByte, hi]

theorem getLsbD_loByte (w : Word) (i : Nat) (hi : i < 8) : (loByte w).getLsbD i = w.getLsbD i := by
  simp [loByte, hi]

/-- Bits 3:0 of a masked byte are zero. -/
theorem and_F0_and_0F (v : Byte) : v &&& 240#8 &&& 15#8 = 0 := by
  rw [BitVec.and_assoc, show (240#8 &&& 15#8) = 0 from by decide]
  simp

theorem hiByte_and_FFF0 (w : Word) : hiByte (w &&& 65520#16) = hiByte w := by
  apply BitVec.eq_of_getLsbD_eq
  intro i hi
  rw [getLsbD_hiByte _ _ hi, getLsbD_hiByte _ _ hi, BitVec.getLsbD_and,
    show (65520#16).getLsbD (8 + i) = true from by interval_cases i <;> decide, Bool.and_true]

theorem loByte_and_FFF0 (w : Word) : loByte (w &&& 65520#16) = loByte w &&& 240#8 := by
  apply BitVec.eq_of_getLsbD_eq
  intro i hi
  rw [getLsbD_loByte _ _ hi, BitVec.getLsbD_and, BitVec.getLsbD_and, getLsbD_loByte _ _ hi,
    show (65520#16).getLsbD i = (240#8).getLsbD i from by interval_cases i <;> decide]

theorem and_FFF0_eq (w : Word) : w &&& 65520#16 = mkWord (hiByte w) (loByte w &&& 240#8) := by
  apply word_eq_of_halves
  · rw [hiByte_and_FFF0, hiByte_mkWord]
  · rw [loByte_and_FFF0, loByte_mkWord]

theorem getLsbD_bitMask (i j : Nat) (hi : i < 8) : (bitMask i).getLsbD j = decide (j = i) := by
  by_cases hj : j < 8
  · interval_cases i <;> interval_cases j <;> decide
  · rw [BitVec.getLsbD_of_ge _ _ (by omega)]
    exact (decide_eq_false (by omega)).symm

/-- Writing one bit writes that bit and keeps the others (R12). -/
theorem bitAt_putBit (v : Byte) (i j : Nat) (b : Bool) (hi : i < 8) :
    bitAt (putBit v i b) j = if j = i then b else bitAt v j := by
  by_cases hj : j < 8
  · cases b
    · show (v &&& ~~~ bitMask i).getLsbD j = _
      rw [BitVec.getLsbD_and, BitVec.getLsbD_not, getLsbD_bitMask i j hi]
      by_cases h : j = i <;> simp [h, hj, bitAt]
    · show (v ||| bitMask i).getLsbD j = _
      rw [BitVec.getLsbD_or, getLsbD_bitMask i j hi]
      by_cases h : j = i <;> simp [h, bitAt]
  · have hne : j ≠ i := by omega
    simp [bitAt, BitVec.getLsbD_of_ge _ _ (by omega : 8 ≤ j), hne]

/-- Writing one of bits 7:4 leaves bits 3:0 as they were. -/
theorem putBit_and_0F (v : Byte) (i : Nat) (b : Bool) (h4 : 4 ≤ i) (h8 : i < 8) : putBit v i b &&& 15#8 = v &&& 15#8 := by
  have hm : bitMask i &&& 15#8 = 0 := by interval_cases i <;> decide
  have hn : ~~~ bitMask i &&& 15#8 = 15#8 := by interval_cases i <;> decide
  cases b
  · show v &&& ~~~ bitMask i &&& 15#8 = _
    rw [BitVec.and_assoc, hn]
  · show (v ||| bitMask i) &&& 15#8 = _
    have : (v ||| bitMask i) &&& 15#8 = (v &&& 15#8) ||| (bitMask i &&& 15#8) := by
      apply BitVec.eq_of_getLsbD_eq
      intro j hj
      simp [Bool.and_or_distrib_right]
    rw [this, hm]; simp

@[simp] theorem flagByte_and_F0 (z n h c : Bool) : flagByte z n h c &&& 240#8 = flagByte z n h c := by
  cases z <;> cases n <;> cases h <;> cases c <;> decide

theorem flagByte_bits (z n h c : Bool) :
    bitAt (flagByte z n h c) 7 = z ∧ bitAt (flagByte z n h c) 6 = n ∧ bitAt (flagByte z n h c) 5 = h ∧
      bitAt (flagByte z n h c) 4 = c := by
  cases z <;> cases n <;> cases h <;> cases c <;> decide

end Sys2Proof.Machine
end

