-- ==== Sys2Proof/Laws/Decode.lean ====
section
/-! SUPPORT. The decoder and the encoder: what `decode` does on each kind of map cell, that fetching three bytes decodes
as `decode` does, and that encoding undoes decoding. -/

namespace Sys2Proof

open Machine

/-- The cell is the 0xCB cell. -/
def Entry.isCb : Entry → Bool
  | .cbPrefix => true
  | _ => false

/-- The bytes of an entry's instruction, for given operands. -/
def Entry.bytes (e : Entry) (b0 b1 b2 : Byte) : List Byte :=
  match e with
  | .f1 _ => [b0]
  | .f2 _ | .cbPrefix => [b0, b1]
  | .f3 _ => [b0, b1, b2]

theorem isCb_primaryEntry : ∀ b : Byte, (primaryEntry b).isCb = decide (b = cbByte) := by decide

/-- The one cell without an instruction of its own is 0xCB (R103). -/
theorem primaryEntry_cb (b : Byte) : primaryEntry b = .cbPrefix ↔ b = cbByte := by
  have h := isCb_primaryEntry b
  constructor
  · intro e; rw [e] at h; exact of_decide_eq_true h.symm
  · rintro rfl; rfl

/-- Every cell of the secondary map is a whole instruction (R88). -/
theorem wellFormed_secondaryInstr : ∀ b : Byte, (secondaryInstr b).wellFormed = true := by decide

theorem encode_secondaryInstr : ∀ b : Byte, encode (secondaryInstr b) = [cbByte, b] := by decide

/-- Any three bytes begin with a whole instruction. -/
theorem wellFormed_decodeBytes (b0 b1 b2 : Byte) : (decodeBytes b0 b1 b2).wellFormed = true := by
  unfold decodeBytes
  cases he : primaryEntry b0 with
  | cbPrefix => exact wellFormed_secondaryInstr b1
  | _ =>
    have h : ∀ b : Byte, (match primaryEntry b with
        | .f1 i => i.wellFormed
        | .f2 mk => (mk b1).wellFormed
        | .f3 mk => (mk (mkWord b2 b1)).wellFormed
        | .cbPrefix => true) = true := of_decide_eq_true rfl
    have h := h b0
    rw [he] at h
    exact h

/-- What the encoder writes for the instruction of a cell, with an operand byte or word. -/
def Entry.encoded (e : Entry) (d : Byte) (w : Word) : List Byte :=
  match e with
  | .f1 i => encode i
  | .f2 mk => encode (mk d)
  | .f3 mk => encode (mk w)
  | .cbPrefix => []

/-- What R81 gives a cell: the cell's own byte and then the operand. -/
def Entry.expected (e : Entry) (b d : Byte) (w : Word) : List Byte :=
  match e with
  | .f1 _ => [b]
  | .f2 _ => [b, d]
  | .f3 _ => bytesF3 b w
  | .cbPrefix => []

theorem encoded_primaryEntry (b d : Byte) (w : Word) :
    (primaryEntry b).encoded d w = (primaryEntry b).expected b d w := by
  have h : ∀ n < 256, (primaryEntry (BitVec.ofNat 8 n)).encoded d w =
      (primaryEntry (BitVec.ofNat 8 n)).expected (BitVec.ofNat 8 n) d w := by
    intro n hn
    interval_cases n <;> rfl
  simpa using h b.toNat b.isLt

/-- Encoding what three bytes decode to gives back as many of them as the instruction has. -/
theorem encode_decodeBytes (b0 b1 b2 : Byte) :
    encode (decodeBytes b0 b1 b2) = (primaryEntry b0).bytes b0 b1 b2 := by
  have h := encoded_primaryEntry b0 b1 (mkWord b2 b1)
  unfold decodeBytes
  cases he : primaryEntry b0 with
  | cbPrefix => rw [(primaryEntry_cb b0).mp he]; exact encode_secondaryInstr b1
  | _ => rw [he] at h; simpa [bytesF3, Entry.bytes, Entry.encoded, Entry.expected] using h

/-- What `decode` reads off three bytes or more is what `decodeBytes` gives (R92, R93). -/
theorem decode_three (b0 b1 b2 : Byte) (rest : List Byte) :
    decode (b0 :: b1 :: b2 :: rest) =
      .ok (decodeBytes b0 b1 b2, (b1 :: b2 :: rest).drop ((primaryEntry b0).byteLength - 1)) := by
  unfold decode decodeBytes
  dsimp only
  cases primaryEntry b0 <;> rfl

/-- What decodes is the encoding of what it decodes to, then the rest. -/
theorem encode_of_decode {bytes rest : List Byte} {i : Instr} (h : decode bytes = .ok (i, rest)) :
    encode i ++ rest = bytes := by
  cases bytes with
  | nil => simp [decode] at h
  | cons b0 tail =>
    have hp := encoded_primaryEntry b0
    unfold decode at h
    cases he : primaryEntry b0 <;> simp only [he, Entry.encoded, Entry.expected] at h hp
    · cases h; simp [hp 0 0]
    · cases tail with
      | nil => cases h
      | cons d tail => cases h; simp [hp d 0]
    · match tail, h with
      | l :: hi :: tail, h => cases h; simp [hp 0, bytesF3]
    · have hb := (primaryEntry_cb b0).mp he
      cases tail with
      | nil => cases h; rw [hb]; rfl
      | cons b1 tail => cases h; rw [encode_secondaryInstr, hb]; rfl

/-- The instruction a step fetches is always a whole one. -/
theorem Machine.wellFormed_fetchInstr (s : State) : s.fetchInstr.wellFormed = true := wellFormed_decodeBytes _ _ _

end Sys2Proof
end

