-- ==== Sys2Proof/Laws/Memory.lean ====
section
/-! SUPPORT. Laws of the memory array: a read after a write, what a write leaves alone, and that every write keeps the
canonical form, so that equal memories are equal data. -/

namespace Sys2Proof.Machine

@[simp] theorem Memory.read_nil (a : Nat) : Memory.read [] a = Memory.unlisted := rfl

theorem Memory.read_cons (k : Nat) (v : Byte) (m : Memory) (a : Nat) :
    Memory.read ((k, v) :: m) a = if k = a then v else Memory.read m a := rfl

theorem Memory.read_erase (m : Memory) (a b : Nat) :
    Memory.read (Memory.erase m a) b = if b = a then Memory.unlisted else Memory.read m b := by
  induction m with
  | nil => simp [Memory.erase]
  | cons c m ih =>
    obtain ⟨k, v⟩ := c
    unfold Memory.erase at ih ⊢
    by_cases hk : k = a
    · subst hk
      by_cases hb : b = k
      · subst hb; simp [ih]
      · simp [ih, hb, Memory.read_cons, Ne.symm hb]
    · rw [List.filter_cons_of_pos (by simpa using hk), Memory.read_cons, Memory.read_cons, ih]
      by_cases hb : b = a
      · subst hb; simp [hk]
      · simp [hb]

theorem Memory.read_insertCell (m : Memory) (a b : Nat) (v : Byte) (hm : ∀ c ∈ m, c.1 ≠ a) :
    Memory.read (Memory.insertCell m a v) b = if b = a then v else Memory.read m b := by
  induction m with
  | nil => simp [Memory.insertCell, Memory.read_cons, eq_comm]
  | cons c m ih =>
    obtain ⟨k, x⟩ := c
    have hk : k ≠ a := hm (k, x) (by simp)
    have ih := ih (fun c hc => hm c (by simp [hc]))
    unfold Memory.insertCell
    split
    · rw [Memory.read_cons]
      by_cases hb : b = a
      · simp [hb]
      · simp [hb, Ne.symm hb]
    · rw [Memory.read_cons, Memory.read_cons, ih]
      by_cases hb : b = a
      · subst hb; simp [hk]
      · simp [hb]

theorem Memory.ne_of_mem_erase {m : Memory} {a : Nat} : ∀ c ∈ Memory.erase m a, c.1 ≠ a := by
  intro c hc
  simpa using (List.mem_filter.mp hc).2

/-- A read after a write: the byte written at its address, the old byte anywhere else. -/
theorem Memory.read_write (m : Memory) (a b : Nat) (v : Byte) :
    Memory.read (Memory.write m a v) b = if b = a then v else Memory.read m b := by
  unfold Memory.write
  split
  · rename_i hv
    rw [Memory.read_erase, hv]
  · rw [Memory.read_insertCell _ _ _ _ Memory.ne_of_mem_erase, Memory.read_erase]
    by_cases hb : b = a <;> simp [hb]

/-! ## The canonical form -/

theorem Memory.wfFrom_cons (low a : Nat) (v : Byte) (m : Memory) :
    Memory.wfFrom low ((a, v) :: m) = true ↔
      low ≤ a ∧ a < 65536 ∧ v ≠ Memory.unlisted ∧ Memory.wfFrom (a + 1) m = true := by
  simp [Memory.wfFrom, and_assoc]

theorem Memory.wfFrom_mono {low low' : Nat} {m : Memory} (h : low' ≤ low) (hm : Memory.wfFrom low m = true) :
    Memory.wfFrom low' m = true := by
  cases m with
  | nil => rfl
  | cons c m =>
    obtain ⟨a, v⟩ := c
    rw [Memory.wfFrom_cons] at hm ⊢
    exact ⟨by omega, hm.2⟩

theorem Memory.wfFrom_erase (m : Memory) (low a : Nat) (h : Memory.wfFrom low m = true) :
    Memory.wfFrom low (Memory.erase m a) = true := by
  induction m generalizing low with
  | nil => rfl
  | cons c m ih =>
    obtain ⟨k, v⟩ := c
    rw [Memory.wfFrom_cons] at h
    unfold Memory.erase at ih ⊢
    by_cases hk : k = a
    · rw [List.filter_cons_of_neg (by simp [hk])]
      exact Memory.wfFrom_mono (by omega) (ih _ h.2.2.2)
    · rw [List.filter_cons_of_pos (by simp [hk]), Memory.wfFrom_cons]
      exact ⟨h.1, h.2.1, h.2.2.1, ih _ h.2.2.2⟩

theorem Memory.wfFrom_insertCell (m : Memory) (low a : Nat) (v : Byte) (h : Memory.wfFrom low m = true)
    (hm : ∀ c ∈ m, c.1 ≠ a) (hl : low ≤ a) (ha : a < 65536) (hv : v ≠ Memory.unlisted) :
    Memory.wfFrom low (Memory.insertCell m a v) = true := by
  induction m generalizing low with
  | nil => exact (Memory.wfFrom_cons ..).mpr ⟨hl, ha, hv, rfl⟩
  | cons c m ih =>
    obtain ⟨k, x⟩ := c
    have hk : k ≠ a := hm (k, x) (by simp)
    rw [Memory.wfFrom_cons] at h
    unfold Memory.insertCell
    split
    · exact (Memory.wfFrom_cons ..).mpr ⟨hl, ha, hv, (Memory.wfFrom_cons ..).mpr ⟨by omega, h.2⟩⟩
    · exact (Memory.wfFrom_cons ..).mpr
        ⟨h.1, h.2.1, h.2.2.1, ih _ h.2.2.2 (fun c hc => hm c (by simp [hc])) (by omega)⟩

/-- A write inside the address space keeps the canonical form. -/
theorem Memory.wf_write (m : Memory) (a : Nat) (v : Byte) (h : m.wf = true) (ha : a < 65536) :
    (Memory.write m a v).wf = true := by
  unfold Memory.write
  split
  · exact Memory.wfFrom_erase m 0 a h
  · rename_i hv
    exact Memory.wfFrom_insertCell _ 0 a v (Memory.wfFrom_erase m 0 a h) Memory.ne_of_mem_erase (by omega) ha hv

theorem Memory.read_of_wfFrom {low : Nat} {m : Memory} (h : Memory.wfFrom low m = true) (a : Nat) (ha : a < low) :
    Memory.read m a = Memory.unlisted := by
  induction m generalizing low with
  | nil => rfl
  | cons c m ih =>
    obtain ⟨k, v⟩ := c
    rw [Memory.wfFrom_cons] at h
    rw [Memory.read_cons, if_neg (by omega)]
    exact ih h.2.2.2 (by omega)

/-- Two memories in canonical form that read alike everywhere are equal. -/
theorem Memory.eq_of_read {low : Nat} {m n : Memory} (hm : Memory.wfFrom low m = true) (hn : Memory.wfFrom low n = true)
    (h : ∀ a, Memory.read m a = Memory.read n a) : m = n := by
  induction m generalizing low n with
  | nil =>
    cases n with
    | nil => rfl
    | cons c n =>
      obtain ⟨k, v⟩ := c
      rw [Memory.wfFrom_cons] at hn
      exact absurd (by simpa [Memory.read_cons] using (h k).symm) hn.2.2.1
  | cons c m ih =>
    obtain ⟨k, v⟩ := c
    rw [Memory.wfFrom_cons] at hm
    cases n with
    | nil => exact absurd (by simpa [Memory.read_cons] using h k) hm.2.2.1
    | cons d n =>
      obtain ⟨j, w⟩ := d
      rw [Memory.wfFrom_cons] at hn
      have hkj : k = j := by
        rcases Nat.lt_trichotomy k j with hlt | heq | hgt
        · have := h k
          rw [Memory.read_cons, if_pos rfl, Memory.read_cons, if_neg (by omega),
            Memory.read_of_wfFrom hn.2.2.2 k (by omega)] at this
          exact absurd this hm.2.2.1
        · exact heq
        · have := h j
          rw [Memory.read_cons, if_neg (by omega), Memory.read_cons, if_pos rfl,
            Memory.read_of_wfFrom hm.2.2.2 j (by omega)] at this
          exact absurd this.symm hn.2.2.1
      subst hkj
      have hvw : v = w := by simpa [Memory.read_cons] using h k
      subst hvw
      congr 1
      refine ih hm.2.2.2 hn.2.2.2 (fun a => ?_)
      by_cases ha : a = k
      · rw [ha, Memory.read_of_wfFrom hm.2.2.2 k (by omega), Memory.read_of_wfFrom hn.2.2.2 k (by omega)]
      · simpa [Memory.read_cons, Ne.symm ha] using h a

end Sys2Proof.Machine
end

