-- ==== Sys2Proof/Laws/State.lean ====
section
/-! SUPPORT. One lemma per field of the state for each named update: what the field is after it. -/

namespace Sys2Proof.Machine

/-! ### One half of a pair -/

@[simp] theorem set8_sp (s : State) (r : Reg8) (v : Byte) : (s.set8 r v).sp = s.sp := by cases r <;> rfl
@[simp] theorem set8_pc (s : State) (r : Reg8) (v : Byte) : (s.set8 r v).pc = s.pc := by cases r <;> rfl
@[simp] theorem set8_cycles (s : State) (r : Reg8) (v : Byte) : (s.set8 r v).cycles = s.cycles := by cases r <;> rfl
@[simp] theorem set8_opcode (s : State) (r : Reg8) (v : Byte) : (s.set8 r v).opcode = s.opcode := by cases r <;> rfl
@[simp] theorem set8_unknownCount (s : State) (r : Reg8) (v : Byte) : (s.set8 r v).unknownCount = s.unknownCount := by cases r <;> rfl
@[simp] theorem set8_mem (s : State) (r : Reg8) (v : Byte) : (s.set8 r v).mem = s.mem := by cases r <;> rfl
@[simp] theorem set8_status (s : State) (r : Reg8) (v : Byte) : (s.set8 r v).status = s.status := by cases r <;> rfl
@[simp] theorem set8_diag (s : State) (r : Reg8) (v : Byte) : (s.set8 r v).diag = s.diag := by cases r <;> rfl
@[simp] theorem set8_build (s : State) (r : Reg8) (v : Byte) : (s.set8 r v).build = s.build := by cases r <;> rfl

/-! ### One 16-bit register -/

@[simp] theorem set16_pc (s : State) (r : Reg16) (v : Word) : (s.set16 r v).pc = s.pc := by cases r <;> rfl
@[simp] theorem set16_cycles (s : State) (r : Reg16) (v : Word) : (s.set16 r v).cycles = s.cycles := by cases r <;> rfl
@[simp] theorem set16_opcode (s : State) (r : Reg16) (v : Word) : (s.set16 r v).opcode = s.opcode := by cases r <;> rfl
@[simp] theorem set16_unknownCount (s : State) (r : Reg16) (v : Word) : (s.set16 r v).unknownCount = s.unknownCount := by cases r <;> rfl
@[simp] theorem set16_mem (s : State) (r : Reg16) (v : Word) : (s.set16 r v).mem = s.mem := by cases r <;> rfl
@[simp] theorem set16_status (s : State) (r : Reg16) (v : Word) : (s.set16 r v).status = s.status := by cases r <;> rfl
@[simp] theorem set16_diag (s : State) (r : Reg16) (v : Word) : (s.set16 r v).diag = s.diag := by cases r <;> rfl
@[simp] theorem set16_build (s : State) (r : Reg16) (v : Word) : (s.set16 r v).build = s.build := by cases r <;> rfl

/-! ### One flag -/

@[simp] theorem setFlag_bc (s : State) (f : Flag) (b : Bool) : (s.setFlag f b).bc = s.bc := rfl
@[simp] theorem setFlag_de (s : State) (f : Flag) (b : Bool) : (s.setFlag f b).de = s.de := rfl
@[simp] theorem setFlag_hl (s : State) (f : Flag) (b : Bool) : (s.setFlag f b).hl = s.hl := rfl
@[simp] theorem setFlag_sp (s : State) (f : Flag) (b : Bool) : (s.setFlag f b).sp = s.sp := rfl
@[simp] theorem setFlag_pc (s : State) (f : Flag) (b : Bool) : (s.setFlag f b).pc = s.pc := rfl
@[simp] theorem setFlag_cycles (s : State) (f : Flag) (b : Bool) : (s.setFlag f b).cycles = s.cycles := rfl
@[simp] theorem setFlag_opcode (s : State) (f : Flag) (b : Bool) : (s.setFlag f b).opcode = s.opcode := rfl
@[simp] theorem setFlag_unknownCount (s : State) (f : Flag) (b : Bool) : (s.setFlag f b).unknownCount = s.unknownCount := rfl
@[simp] theorem setFlag_mem (s : State) (f : Flag) (b : Bool) : (s.setFlag f b).mem = s.mem := rfl
@[simp] theorem setFlag_status (s : State) (f : Flag) (b : Bool) : (s.setFlag f b).status = s.status := rfl
@[simp] theorem setFlag_diag (s : State) (f : Flag) (b : Bool) : (s.setFlag f b).diag = s.diag := rfl
@[simp] theorem setFlag_build (s : State) (f : Flag) (b : Bool) : (s.setFlag f b).build = s.build := rfl

/-! ### All of F -/

@[simp] theorem setFlags_bc (s : State) (z : Bool) (n : Bool) (h : Bool) (c : Bool) : (s.setFlags z n h c).bc = s.bc := rfl
@[simp] theorem setFlags_de (s : State) (z : Bool) (n : Bool) (h : Bool) (c : Bool) : (s.setFlags z n h c).de = s.de := rfl
@[simp] theorem setFlags_hl (s : State) (z : Bool) (n : Bool) (h : Bool) (c : Bool) : (s.setFlags z n h c).hl = s.hl := rfl
@[simp] theorem setFlags_sp (s : State) (z : Bool) (n : Bool) (h : Bool) (c : Bool) : (s.setFlags z n h c).sp = s.sp := rfl
@[simp] theorem setFlags_pc (s : State) (z : Bool) (n : Bool) (h : Bool) (c : Bool) : (s.setFlags z n h c).pc = s.pc := rfl
@[simp] theorem setFlags_cycles (s : State) (z : Bool) (n : Bool) (h : Bool) (c : Bool) : (s.setFlags z n h c).cycles = s.cycles := rfl
@[simp] theorem setFlags_opcode (s : State) (z : Bool) (n : Bool) (h : Bool) (c : Bool) : (s.setFlags z n h c).opcode = s.opcode := rfl
@[simp] theorem setFlags_unknownCount (s : State) (z : Bool) (n : Bool) (h : Bool) (c : Bool) : (s.setFlags z n h c).unknownCount = s.unknownCount := rfl
@[simp] theorem setFlags_mem (s : State) (z : Bool) (n : Bool) (h : Bool) (c : Bool) : (s.setFlags z n h c).mem = s.mem := rfl
@[simp] theorem setFlags_status (s : State) (z : Bool) (n : Bool) (h : Bool) (c : Bool) : (s.setFlags z n h c).status = s.status := rfl
@[simp] theorem setFlags_diag (s : State) (z : Bool) (n : Bool) (h : Bool) (c : Bool) : (s.setFlags z n h c).diag = s.diag := rfl
@[simp] theorem setFlags_build (s : State) (z : Bool) (n : Bool) (h : Bool) (c : Bool) : (s.setFlags z n h c).build = s.build := rfl

/-! ### The diagnostic stream -/

@[simp] theorem log_af (s : State) (e : DiagEvent) : (s.log e).af = s.af := rfl
@[simp] theorem log_bc (s : State) (e : DiagEvent) : (s.log e).bc = s.bc := rfl
@[simp] theorem log_de (s : State) (e : DiagEvent) : (s.log e).de = s.de := rfl
@[simp] theorem log_hl (s : State) (e : DiagEvent) : (s.log e).hl = s.hl := rfl
@[simp] theorem log_sp (s : State) (e : DiagEvent) : (s.log e).sp = s.sp := rfl
@[simp] theorem log_pc (s : State) (e : DiagEvent) : (s.log e).pc = s.pc := rfl
@[simp] theorem log_cycles (s : State) (e : DiagEvent) : (s.log e).cycles = s.cycles := rfl
@[simp] theorem log_opcode (s : State) (e : DiagEvent) : (s.log e).opcode = s.opcode := rfl
@[simp] theorem log_unknownCount (s : State) (e : DiagEvent) : (s.log e).unknownCount = s.unknownCount := rfl
@[simp] theorem log_mem (s : State) (e : DiagEvent) : (s.log e).mem = s.mem := rfl
@[simp] theorem log_status (s : State) (e : DiagEvent) : (s.log e).status = s.status := rfl
@[simp] theorem log_build (s : State) (e : DiagEvent) : (s.log e).build = s.build := rfl
@[simp] theorem log_diag (s : State) (e : DiagEvent) : (s.log e).diag = s.diag ++ [e] := rfl

/-! ### The end of a handler -/

@[simp] theorem retire_af (s : State) (len : Word) (m : Nat) : (s.retire len m).af = s.af := rfl
@[simp] theorem retire_bc (s : State) (len : Word) (m : Nat) : (s.retire len m).bc = s.bc := rfl
@[simp] theorem retire_de (s : State) (len : Word) (m : Nat) : (s.retire len m).de = s.de := rfl
@[simp] theorem retire_hl (s : State) (len : Word) (m : Nat) : (s.retire len m).hl = s.hl := rfl
@[simp] theorem retire_sp (s : State) (len : Word) (m : Nat) : (s.retire len m).sp = s.sp := rfl
@[simp] theorem retire_opcode (s : State) (len : Word) (m : Nat) : (s.retire len m).opcode = s.opcode := rfl
@[simp] theorem retire_unknownCount (s : State) (len : Word) (m : Nat) : (s.retire len m).unknownCount = s.unknownCount := rfl
@[simp] theorem retire_mem (s : State) (len : Word) (m : Nat) : (s.retire len m).mem = s.mem := rfl
@[simp] theorem retire_status (s : State) (len : Word) (m : Nat) : (s.retire len m).status = s.status := rfl
@[simp] theorem retire_diag (s : State) (len : Word) (m : Nat) : (s.retire len m).diag = s.diag := rfl
@[simp] theorem retire_build (s : State) (len : Word) (m : Nat) : (s.retire len m).build = s.build := rfl
@[simp] theorem retire_pc (s : State) (len : Word) (m : Nat) : (s.retire len m).pc = s.pc + len := rfl
@[simp] theorem retire_cycles (s : State) (len : Word) (m : Nat) : (s.retire len m).cycles = s.cycles + m := rfl

/-! ### A taken control transfer -/

@[simp] theorem jump_af (s : State) (target : Word) (m : Nat) : (s.jump target m).af = s.af := rfl
@[simp] theorem jump_bc (s : State) (target : Word) (m : Nat) : (s.jump target m).bc = s.bc := rfl
@[simp] theorem jump_de (s : State) (target : Word) (m : Nat) : (s.jump target m).de = s.de := rfl
@[simp] theorem jump_hl (s : State) (target : Word) (m : Nat) : (s.jump target m).hl = s.hl := rfl
@[simp] theorem jump_sp (s : State) (target : Word) (m : Nat) : (s.jump target m).sp = s.sp := rfl
@[simp] theorem jump_opcode (s : State) (target : Word) (m : Nat) : (s.jump target m).opcode = s.opcode := rfl
@[simp] theorem jump_unknownCount (s : State) (target : Word) (m : Nat) : (s.jump target m).unknownCount = s.unknownCount := rfl
@[simp] theorem jump_mem (s : State) (target : Word) (m : Nat) : (s.jump target m).mem = s.mem := rfl
@[simp] theorem jump_status (s : State) (target : Word) (m : Nat) : (s.jump target m).status = s.status := rfl
@[simp] theorem jump_diag (s : State) (target : Word) (m : Nat) : (s.jump target m).diag = s.diag := rfl
@[simp] theorem jump_build (s : State) (target : Word) (m : Nat) : (s.jump target m).build = s.build := rfl
@[simp] theorem jump_pc (s : State) (target : Word) (m : Nat) : (s.jump target m).pc = target := rfl
@[simp] theorem jump_cycles (s : State) (target : Word) (m : Nat) : (s.jump target m).cycles = s.cycles + m := rfl

/-! ### A byte write -/

@[simp] theorem writeByte_af (s : State) (a : Word) (v : Byte) : (s.writeByte a v).af = s.af := by unfold State.writeByte; split <;> rfl
@[simp] theorem writeByte_bc (s : State) (a : Word) (v : Byte) : (s.writeByte a v).bc = s.bc := by unfold State.writeByte; split <;> rfl
@[simp] theorem writeByte_de (s : State) (a : Word) (v : Byte) : (s.writeByte a v).de = s.de := by unfold State.writeByte; split <;> rfl
@[simp] theorem writeByte_hl (s : State) (a : Word) (v : Byte) : (s.writeByte a v).hl = s.hl := by unfold State.writeByte; split <;> rfl
@[simp] theorem writeByte_sp (s : State) (a : Word) (v : Byte) : (s.writeByte a v).sp = s.sp := by unfold State.writeByte; split <;> rfl
@[simp] theorem writeByte_pc (s : State) (a : Word) (v : Byte) : (s.writeByte a v).pc = s.pc := by unfold State.writeByte; split <;> rfl
@[simp] theorem writeByte_cycles (s : State) (a : Word) (v : Byte) : (s.writeByte a v).cycles = s.cycles := by unfold State.writeByte; split <;> rfl
@[simp] theorem writeByte_opcode (s : State) (a : Word) (v : Byte) : (s.writeByte a v).opcode = s.opcode := by unfold State.writeByte; split <;> rfl
@[simp] theorem writeByte_unknownCount (s : State) (a : Word) (v : Byte) : (s.writeByte a v).unknownCount = s.unknownCount := by unfold State.writeByte; split <;> rfl
@[simp] theorem writeByte_status (s : State) (a : Word) (v : Byte) : (s.writeByte a v).status = s.status := by unfold State.writeByte; split <;> rfl
@[simp] theorem writeByte_build (s : State) (a : Word) (v : Byte) : (s.writeByte a v).build = s.build := by unfold State.writeByte; split <;> rfl

/-! ### A word write -/

@[simp] theorem writeWord_af (s : State) (a : Word) (v : Word) : (s.writeWord a v).af = s.af := by unfold State.writeWord; split <;> simp
@[simp] theorem writeWord_bc (s : State) (a : Word) (v : Word) : (s.writeWord a v).bc = s.bc := by unfold State.writeWord; split <;> simp
@[simp] theorem writeWord_de (s : State) (a : Word) (v : Word) : (s.writeWord a v).de = s.de := by unfold State.writeWord; split <;> simp
@[simp] theorem writeWord_hl (s : State) (a : Word) (v : Word) : (s.writeWord a v).hl = s.hl := by unfold State.writeWord; split <;> simp
@[simp] theorem writeWord_sp (s : State) (a : Word) (v : Word) : (s.writeWord a v).sp = s.sp := by unfold State.writeWord; split <;> simp
@[simp] theorem writeWord_pc (s : State) (a : Word) (v : Word) : (s.writeWord a v).pc = s.pc := by unfold State.writeWord; split <;> simp
@[simp] theorem writeWord_cycles (s : State) (a : Word) (v : Word) : (s.writeWord a v).cycles = s.cycles := by unfold State.writeWord; split <;> simp
@[simp] theorem writeWord_opcode (s : State) (a : Word) (v : Word) : (s.writeWord a v).opcode = s.opcode := by unfold State.writeWord; split <;> simp
@[simp] theorem writeWord_unknownCount (s : State) (a : Word) (v : Word) : (s.writeWord a v).unknownCount = s.unknownCount := by unfold State.writeWord; split <;> simp
@[simp] theorem writeWord_status (s : State) (a : Word) (v : Word) : (s.writeWord a v).status = s.status := by unfold State.writeWord; split <;> simp
@[simp] theorem writeWord_build (s : State) (a : Word) (v : Word) : (s.writeWord a v).build = s.build := by unfold State.writeWord; split <;> simp

/-! ### A push -/

@[simp] theorem push16_af (s : State) (v : Word) : (s.push16 v).af = s.af := by simp [State.push16]
@[simp] theorem push16_bc (s : State) (v : Word) : (s.push16 v).bc = s.bc := by simp [State.push16]
@[simp] theorem push16_de (s : State) (v : Word) : (s.push16 v).de = s.de := by simp [State.push16]
@[simp] theorem push16_hl (s : State) (v : Word) : (s.push16 v).hl = s.hl := by simp [State.push16]
@[simp] theorem push16_pc (s : State) (v : Word) : (s.push16 v).pc = s.pc := by simp [State.push16]
@[simp] theorem push16_cycles (s : State) (v : Word) : (s.push16 v).cycles = s.cycles := by simp [State.push16]
@[simp] theorem push16_opcode (s : State) (v : Word) : (s.push16 v).opcode = s.opcode := by simp [State.push16]
@[simp] theorem push16_unknownCount (s : State) (v : Word) : (s.push16 v).unknownCount = s.unknownCount := by simp [State.push16]
@[simp] theorem push16_status (s : State) (v : Word) : (s.push16 v).status = s.status := by simp [State.push16]
@[simp] theorem push16_build (s : State) (v : Word) : (s.push16 v).build = s.build := by simp [State.push16]
@[simp] theorem push16_sp (s : State) (v : Word) : (s.push16 v).sp = s.sp - 2 := by simp [State.push16]

/-! ### The SP of a pop -/

@[simp] theorem dropWord_af (s : State) : s.dropWord.af = s.af := rfl
@[simp] theorem dropWord_bc (s : State) : s.dropWord.bc = s.bc := rfl
@[simp] theorem dropWord_de (s : State) : s.dropWord.de = s.de := rfl
@[simp] theorem dropWord_hl (s : State) : s.dropWord.hl = s.hl := rfl
@[simp] theorem dropWord_pc (s : State) : s.dropWord.pc = s.pc := rfl
@[simp] theorem dropWord_cycles (s : State) : s.dropWord.cycles = s.cycles := rfl
@[simp] theorem dropWord_opcode (s : State) : s.dropWord.opcode = s.opcode := rfl
@[simp] theorem dropWord_unknownCount (s : State) : s.dropWord.unknownCount = s.unknownCount := rfl
@[simp] theorem dropWord_mem (s : State) : s.dropWord.mem = s.mem := rfl
@[simp] theorem dropWord_status (s : State) : s.dropWord.status = s.status := rfl
@[simp] theorem dropWord_diag (s : State) : s.dropWord.diag = s.diag := rfl
@[simp] theorem dropWord_build (s : State) : s.dropWord.build = s.build := rfl
@[simp] theorem dropWord_sp (s : State) : s.dropWord.sp = s.sp + 2 := rfl

/-! ### Fetch -/

@[simp] theorem noteOpcode_af (s : State) (k : Key) : (s.noteOpcode k).af = s.af := rfl
@[simp] theorem noteOpcode_bc (s : State) (k : Key) : (s.noteOpcode k).bc = s.bc := rfl
@[simp] theorem noteOpcode_de (s : State) (k : Key) : (s.noteOpcode k).de = s.de := rfl
@[simp] theorem noteOpcode_hl (s : State) (k : Key) : (s.noteOpcode k).hl = s.hl := rfl
@[simp] theorem noteOpcode_sp (s : State) (k : Key) : (s.noteOpcode k).sp = s.sp := rfl
@[simp] theorem noteOpcode_pc (s : State) (k : Key) : (s.noteOpcode k).pc = s.pc := rfl
@[simp] theorem noteOpcode_cycles (s : State) (k : Key) : (s.noteOpcode k).cycles = s.cycles := rfl
@[simp] theorem noteOpcode_unknownCount (s : State) (k : Key) : (s.noteOpcode k).unknownCount = s.unknownCount := rfl
@[simp] theorem noteOpcode_mem (s : State) (k : Key) : (s.noteOpcode k).mem = s.mem := rfl
@[simp] theorem noteOpcode_status (s : State) (k : Key) : (s.noteOpcode k).status = s.status := rfl
@[simp] theorem noteOpcode_diag (s : State) (k : Key) : (s.noteOpcode k).diag = s.diag := rfl
@[simp] theorem noteOpcode_build (s : State) (k : Key) : (s.noteOpcode k).build = s.build := rfl
@[simp] theorem noteOpcode_opcode (s : State) (k : Key) : (s.noteOpcode k).opcode = k.2 := rfl

/-! ### Entering a handler -/

@[simp] theorem enterHandler_af (s : State) : s.enterHandler.af = s.af := rfl
@[simp] theorem enterHandler_bc (s : State) : s.enterHandler.bc = s.bc := rfl
@[simp] theorem enterHandler_de (s : State) : s.enterHandler.de = s.de := rfl
@[simp] theorem enterHandler_hl (s : State) : s.enterHandler.hl = s.hl := rfl
@[simp] theorem enterHandler_sp (s : State) : s.enterHandler.sp = s.sp := rfl
@[simp] theorem enterHandler_pc (s : State) : s.enterHandler.pc = s.pc := rfl
@[simp] theorem enterHandler_cycles (s : State) : s.enterHandler.cycles = s.cycles := rfl
@[simp] theorem enterHandler_opcode (s : State) : s.enterHandler.opcode = s.opcode := rfl
@[simp] theorem enterHandler_mem (s : State) : s.enterHandler.mem = s.mem := rfl
@[simp] theorem enterHandler_status (s : State) : s.enterHandler.status = s.status := rfl
@[simp] theorem enterHandler_diag (s : State) : s.enterHandler.diag = s.diag := rfl
@[simp] theorem enterHandler_build (s : State) : s.enterHandler.build = s.build := rfl
@[simp] theorem enterHandler_unknownCount (s : State) : s.enterHandler.unknownCount = 0 := rfl

/-! ### The ALU -/

@[simp] theorem aluWrite_bc (s : State) (op : AluOp) (b : Byte) : (s.aluWrite op b).bc = s.bc := by cases op <;> rfl
@[simp] theorem aluWrite_de (s : State) (op : AluOp) (b : Byte) : (s.aluWrite op b).de = s.de := by cases op <;> rfl
@[simp] theorem aluWrite_hl (s : State) (op : AluOp) (b : Byte) : (s.aluWrite op b).hl = s.hl := by cases op <;> rfl
@[simp] theorem aluWrite_sp (s : State) (op : AluOp) (b : Byte) : (s.aluWrite op b).sp = s.sp := by cases op <;> rfl
@[simp] theorem aluWrite_pc (s : State) (op : AluOp) (b : Byte) : (s.aluWrite op b).pc = s.pc := by cases op <;> rfl
@[simp] theorem aluWrite_cycles (s : State) (op : AluOp) (b : Byte) : (s.aluWrite op b).cycles = s.cycles := by cases op <;> rfl
@[simp] theorem aluWrite_opcode (s : State) (op : AluOp) (b : Byte) : (s.aluWrite op b).opcode = s.opcode := by cases op <;> rfl
@[simp] theorem aluWrite_unknownCount (s : State) (op : AluOp) (b : Byte) : (s.aluWrite op b).unknownCount = s.unknownCount := by cases op <;> rfl
@[simp] theorem aluWrite_mem (s : State) (op : AluOp) (b : Byte) : (s.aluWrite op b).mem = s.mem := by cases op <;> rfl
@[simp] theorem aluWrite_status (s : State) (op : AluOp) (b : Byte) : (s.aluWrite op b).status = s.status := by cases op <;> rfl
@[simp] theorem aluWrite_diag (s : State) (op : AluOp) (b : Byte) : (s.aluWrite op b).diag = s.diag := by cases op <;> rfl
@[simp] theorem aluWrite_build (s : State) (op : AluOp) (b : Byte) : (s.aluWrite op b).build = s.build := by cases op <;> rfl

/-! ### The flags of INC and DEC -/

@[simp] theorem incDecFlags_bc (s : State) (o : AluOut) : (s.incDecFlags o).bc = s.bc := rfl
@[simp] theorem incDecFlags_de (s : State) (o : AluOut) : (s.incDecFlags o).de = s.de := rfl
@[simp] theorem incDecFlags_hl (s : State) (o : AluOut) : (s.incDecFlags o).hl = s.hl := rfl
@[simp] theorem incDecFlags_sp (s : State) (o : AluOut) : (s.incDecFlags o).sp = s.sp := rfl
@[simp] theorem incDecFlags_pc (s : State) (o : AluOut) : (s.incDecFlags o).pc = s.pc := rfl
@[simp] theorem incDecFlags_cycles (s : State) (o : AluOut) : (s.incDecFlags o).cycles = s.cycles := rfl
@[simp] theorem incDecFlags_opcode (s : State) (o : AluOut) : (s.incDecFlags o).opcode = s.opcode := rfl
@[simp] theorem incDecFlags_unknownCount (s : State) (o : AluOut) : (s.incDecFlags o).unknownCount = s.unknownCount := rfl
@[simp] theorem incDecFlags_mem (s : State) (o : AluOut) : (s.incDecFlags o).mem = s.mem := rfl
@[simp] theorem incDecFlags_status (s : State) (o : AluOut) : (s.incDecFlags o).status = s.status := rfl
@[simp] theorem incDecFlags_diag (s : State) (o : AluOut) : (s.incDecFlags o).diag = s.diag := rfl
@[simp] theorem incDecFlags_build (s : State) (o : AluOut) : (s.incDecFlags o).build = s.build := rfl

/-! ### The flags of a shift -/

@[simp] theorem shiftFlags_bc (s : State) (o : ShiftOut) : (s.shiftFlags o).bc = s.bc := rfl
@[simp] theorem shiftFlags_de (s : State) (o : ShiftOut) : (s.shiftFlags o).de = s.de := rfl
@[simp] theorem shiftFlags_hl (s : State) (o : ShiftOut) : (s.shiftFlags o).hl = s.hl := rfl
@[simp] theorem shiftFlags_sp (s : State) (o : ShiftOut) : (s.shiftFlags o).sp = s.sp := rfl
@[simp] theorem shiftFlags_pc (s : State) (o : ShiftOut) : (s.shiftFlags o).pc = s.pc := rfl
@[simp] theorem shiftFlags_cycles (s : State) (o : ShiftOut) : (s.shiftFlags o).cycles = s.cycles := rfl
@[simp] theorem shiftFlags_opcode (s : State) (o : ShiftOut) : (s.shiftFlags o).opcode = s.opcode := rfl
@[simp] theorem shiftFlags_unknownCount (s : State) (o : ShiftOut) : (s.shiftFlags o).unknownCount = s.unknownCount := rfl
@[simp] theorem shiftFlags_mem (s : State) (o : ShiftOut) : (s.shiftFlags o).mem = s.mem := rfl
@[simp] theorem shiftFlags_status (s : State) (o : ShiftOut) : (s.shiftFlags o).status = s.status := rfl
@[simp] theorem shiftFlags_diag (s : State) (o : ShiftOut) : (s.shiftFlags o).diag = s.diag := rfl
@[simp] theorem shiftFlags_build (s : State) (o : ShiftOut) : (s.shiftFlags o).build = s.build := rfl

/-! ### The flags of BIT -/

@[simp] theorem bitFlags_bc (s : State) (b : Bool) : (s.bitFlags b).bc = s.bc := rfl
@[simp] theorem bitFlags_de (s : State) (b : Bool) : (s.bitFlags b).de = s.de := rfl
@[simp] theorem bitFlags_hl (s : State) (b : Bool) : (s.bitFlags b).hl = s.hl := rfl
@[simp] theorem bitFlags_sp (s : State) (b : Bool) : (s.bitFlags b).sp = s.sp := rfl
@[simp] theorem bitFlags_pc (s : State) (b : Bool) : (s.bitFlags b).pc = s.pc := rfl
@[simp] theorem bitFlags_cycles (s : State) (b : Bool) : (s.bitFlags b).cycles = s.cycles := rfl
@[simp] theorem bitFlags_opcode (s : State) (b : Bool) : (s.bitFlags b).opcode = s.opcode := rfl
@[simp] theorem bitFlags_unknownCount (s : State) (b : Bool) : (s.bitFlags b).unknownCount = s.unknownCount := rfl
@[simp] theorem bitFlags_mem (s : State) (b : Bool) : (s.bitFlags b).mem = s.mem := rfl
@[simp] theorem bitFlags_status (s : State) (b : Bool) : (s.bitFlags b).status = s.status := rfl
@[simp] theorem bitFlags_diag (s : State) (b : Bool) : (s.bitFlags b).diag = s.diag := rfl
@[simp] theorem bitFlags_build (s : State) (b : Bool) : (s.bitFlags b).build = s.build := rfl

/-! ### The unknown-opcode handler -/

@[simp] theorem raiseUnknown_af (s : State) (t : Table) (byte : Byte) : (s.raiseUnknown t byte).af = s.af := by
  unfold State.raiseUnknown; split <;> (try split) <;> rfl
@[simp] theorem raiseUnknown_bc (s : State) (t : Table) (byte : Byte) : (s.raiseUnknown t byte).bc = s.bc := by
  unfold State.raiseUnknown; split <;> (try split) <;> rfl
@[simp] theorem raiseUnknown_de (s : State) (t : Table) (byte : Byte) : (s.raiseUnknown t byte).de = s.de := by
  unfold State.raiseUnknown; split <;> (try split) <;> rfl
@[simp] theorem raiseUnknown_hl (s : State) (t : Table) (byte : Byte) : (s.raiseUnknown t byte).hl = s.hl := by
  unfold State.raiseUnknown; split <;> (try split) <;> rfl
@[simp] theorem raiseUnknown_sp (s : State) (t : Table) (byte : Byte) : (s.raiseUnknown t byte).sp = s.sp := by
  unfold State.raiseUnknown; split <;> (try split) <;> rfl
@[simp] theorem raiseUnknown_cycles (s : State) (t : Table) (byte : Byte) : (s.raiseUnknown t byte).cycles = s.cycles := by
  unfold State.raiseUnknown; split <;> (try split) <;> rfl
@[simp] theorem raiseUnknown_opcode (s : State) (t : Table) (byte : Byte) : (s.raiseUnknown t byte).opcode = s.opcode := by
  unfold State.raiseUnknown; split <;> (try split) <;> rfl
@[simp] theorem raiseUnknown_mem (s : State) (t : Table) (byte : Byte) : (s.raiseUnknown t byte).mem = s.mem := by
  unfold State.raiseUnknown; split <;> (try split) <;> rfl
@[simp] theorem raiseUnknown_diag (s : State) (t : Table) (byte : Byte) : (s.raiseUnknown t byte).diag = s.diag := by
  unfold State.raiseUnknown; split <;> (try split) <;> rfl
@[simp] theorem raiseUnknown_build (s : State) (t : Table) (byte : Byte) : (s.raiseUnknown t byte).build = s.build := by
  unfold State.raiseUnknown; split <;> (try split) <;> rfl

/-! ### The unknown-opcode handler with its log -/

@[simp] theorem unknown_af (s : State) (t : Table) (byte : Byte) : (s.unknown t byte).af = s.af := by simp [State.unknown]
@[simp] theorem unknown_bc (s : State) (t : Table) (byte : Byte) : (s.unknown t byte).bc = s.bc := by simp [State.unknown]
@[simp] theorem unknown_de (s : State) (t : Table) (byte : Byte) : (s.unknown t byte).de = s.de := by simp [State.unknown]
@[simp] theorem unknown_hl (s : State) (t : Table) (byte : Byte) : (s.unknown t byte).hl = s.hl := by simp [State.unknown]
@[simp] theorem unknown_sp (s : State) (t : Table) (byte : Byte) : (s.unknown t byte).sp = s.sp := by simp [State.unknown]
@[simp] theorem unknown_cycles (s : State) (t : Table) (byte : Byte) : (s.unknown t byte).cycles = s.cycles := by simp [State.unknown]
@[simp] theorem unknown_opcode (s : State) (t : Table) (byte : Byte) : (s.unknown t byte).opcode = s.opcode := by simp [State.unknown]
@[simp] theorem unknown_mem (s : State) (t : Table) (byte : Byte) : (s.unknown t byte).mem = s.mem := by simp [State.unknown]
@[simp] theorem unknown_build (s : State) (t : Table) (byte : Byte) : (s.unknown t byte).build = s.build := by simp [State.unknown]
@[simp] theorem unknown_diag (s : State) (t : Table) (byte : Byte) :
    (s.unknown t byte).diag = s.diag ++ [.unknownOpcode t byte s.pc] := by simp [State.unknown]

end Sys2Proof.Machine
end

