-- ==== Sys2Proof/Laws/Ops.lean ====
section
/-! SUPPORT. What each shared operation does, said once: the register file, the flags, the Memory Unit, the stack, the
populated entries and the unknown-opcode handler. -/

namespace Sys2Proof.Machine

/-! ## The register file -/

/-- A half reads as it was last written; `F` reads with bits 3:0 cleared; every other half is as before (R23, R26). -/
theorem get8_set8 (s : State) (r q : Reg8) (v : Byte) :
    (s.set8 r v).get8 q = if q = r then (if r = .f then v &&& 0xF0 else v) else s.get8 q := by
  cases r <;> cases q <;> simp [State.set8, State.get8]

/-- A 16-bit register reads as it was last written, `AF` with bits 3:0 cleared; every other is as before. -/
theorem get16_set16 (s : State) (r q : Reg16) (v : Word) :
    (s.set16 r v).get16 q = if q = r then (if r = .af then v &&& 0xFFF0 else v) else s.get16 q := by
  cases r <;> cases q <;> rfl

/-- Each pair is its two halves (R23). -/
theorem pairs_are_halves (s : State) :
    s.af = mkWord (s.get8 .a) (s.get8 .f) ∧ s.bc = mkWord (s.get8 .b) (s.get8 .c) ∧
      s.de = mkWord (s.get8 .d) (s.get8 .e) ∧ s.hl = mkWord (s.get8 .h) (s.get8 .l) := by
  simp [State.get8]

@[simp] theorem setFlag_af (s : State) (f : Flag) (b : Bool) :
    (s.setFlag f b).af = mkWord (hiByte s.af) (putBit (loByte s.af) (flagBit f) b) := rfl

@[simp] theorem setFlags_af (s : State) (z n h c : Bool) :
    (s.setFlags z n h c).af = mkWord (hiByte s.af) (flagByte z n h c) := by
  simp [State.setFlags, State.set8]

@[simp] theorem bitFlags_af (s : State) (b : Bool) :
    (s.bitFlags b).af = mkWord (hiByte s.af) (putBit (putBit (putBit (loByte s.af) 7 (!b)) 6 false) 5 true) := by
  simp [State.bitFlags, flagBit]

@[simp] theorem shiftFlags_af (s : State) (o : ShiftOut) :
    (s.shiftFlags o).af = mkWord (hiByte s.af) (flagByte (o.res == 0) false false o.co) := by
  simp [State.shiftFlags]

@[simp] theorem incDecFlags_af (s : State) (o : AluOut) :
    (s.incDecFlags o).af = mkWord (hiByte s.af)
      (putBit (putBit (putBit (putBit (loByte s.af) 7 o.z) 6 o.n) 5 o.h) 4 (s.incDecCarry o.c)) := by
  simp [State.incDecFlags, flagBit]

theorem flagBit_lt (f : Flag) : flagBit f < 8 := by cases f <;> decide

theorem four_le_flagBit (f : Flag) : 4 ≤ flagBit f := by cases f <;> decide

theorem flagBit_inj {f g : Flag} : flagBit f = flagBit g ↔ f = g := by cases f <;> cases g <;> decide

/-- A flag reads as it was last written and every other flag is as before (R27). -/
theorem flag_setFlag (s : State) (f g : Flag) (b : Bool) :
    (s.setFlag f b).flag g = if g = f then b else s.flag g := by
  simp only [State.flag, State.get8, setFlag_af, loByte_mkWord, bitAt_putBit _ _ _ _ (flagBit_lt f), flagBit_inj]

/-- After `F <- (z, n, h, c)` the flags are the four bits (R26). -/
theorem flag_setFlags (s : State) (z n h c : Bool) (g : Flag) :
    (s.setFlags z n h c).flag g = match g with | .z => z | .n => n | .h => h | .c => c := by
  obtain ⟨hz, hn, hh, hc⟩ := flagByte_bits z n h c
  cases g <;> simp [State.flag, State.get8, flagBit, *]

/-! ## Reads of memory after an update that stores nothing -/

@[simp] theorem set8_readByte (s : State) (r : Reg8) (v : Byte) (x : Word) : (s.set8 r v).readByte x = s.readByte x := by
  simp [State.readByte]
@[simp] theorem set16_readByte (s : State) (r : Reg16) (v : Word) (x : Word) : (s.set16 r v).readByte x = s.readByte x := by
  simp [State.readByte]
@[simp] theorem setFlag_readByte (s : State) (f : Flag) (b : Bool) (x : Word) : (s.setFlag f b).readByte x = s.readByte x := by
  simp [State.readByte]
@[simp] theorem setFlags_readByte (s : State) (z : Bool) (n : Bool) (h : Bool) (c : Bool) (x : Word) : (s.setFlags z n h c).readByte x = s.readByte x := by
  simp [State.readByte]
@[simp] theorem log_readByte (s : State) (e : DiagEvent) (x : Word) : (s.log e).readByte x = s.readByte x := by
  simp [State.readByte]
@[simp] theorem retire_readByte (s : State) (len : Word) (m : Nat) (x : Word) : (s.retire len m).readByte x = s.readByte x := by
  simp [State.readByte]
@[simp] theorem jump_readByte (s : State) (target : Word) (m : Nat) (x : Word) : (s.jump target m).readByte x = s.readByte x := by
  simp [State.readByte]
@[simp] theorem dropWord_readByte (s : State) (x : Word) : s.dropWord.readByte x = s.readByte x := by
  simp [State.readByte]
@[simp] theorem noteOpcode_readByte (s : State) (k : Key) (x : Word) : (s.noteOpcode k).readByte x = s.readByte x := by
  simp [State.readByte]
@[simp] theorem enterHandler_readByte (s : State) (x : Word) : s.enterHandler.readByte x = s.readByte x := by
  simp [State.readByte]
@[simp] theorem aluWrite_readByte (s : State) (op : AluOp) (b : Byte) (x : Word) : (s.aluWrite op b).readByte x = s.readByte x := by
  simp [State.readByte]
@[simp] theorem incDecFlags_readByte (s : State) (o : AluOut) (x : Word) : (s.incDecFlags o).readByte x = s.readByte x := by
  simp [State.readByte]
@[simp] theorem shiftFlags_readByte (s : State) (o : ShiftOut) (x : Word) : (s.shiftFlags o).readByte x = s.readByte x := by
  simp [State.readByte]
@[simp] theorem bitFlags_readByte (s : State) (b : Bool) (x : Word) : (s.bitFlags b).readByte x = s.readByte x := by
  simp [State.readByte]
@[simp] theorem unknown_readByte (s : State) (t : Table) (byte : Byte) (x : Word) : (s.unknown t byte).readByte x = s.readByte x := by
  simp [State.readByte]

/-! ## The Memory Unit -/

/-- Only a write at or above the boundary is seen, and only at its address (R52, R54). -/
theorem readByte_writeByte (s : State) (a b : Word) (v : Byte) :
    (s.writeByte a v).readByte b = if b = a ∧ isRom a = false then v else s.readByte b := by
  unfold State.writeByte
  cases h : isRom a
  · simp [State.readByte, Memory.read_write, BitVec.toNat_inj]
  · simp

/-- A refused write adds one warning, another adds none (R55). -/
theorem diag_writeByte (s : State) (a : Word) (v : Byte) :
    (s.writeByte a v).diag = if isRom a then s.diag ++ [.romWrite a] else s.diag := by
  unfold State.writeByte
  split <;> rfl

/-- The bytes a word write leaves (R56). -/
theorem readByte_writeWord (s : State) (a b : Word) (v : Word) :
    (s.writeWord a v).readByte b =
      if isRom a then s.readByte b
      else if b = a + 1 ∧ isRom (a + 1) = false then hiByte v
      else if b = a then loByte v
      else s.readByte b := by
  unfold State.writeWord
  cases h : isRom a
  · simp [readByte_writeByte, h]
  · simp

/-- The warnings of a word write: one for the whole word, or one for its second byte (R56, R304). -/
theorem diag_writeWord (s : State) (a : Word) (v : Word) :
    (s.writeWord a v).diag =
      if isRom a then s.diag ++ [.romWrite a]
      else if isRom (a + 1) then s.diag ++ [.romWrite (a + 1)]
      else s.diag := by
  unfold State.writeWord
  cases h : isRom a <;> simp [diag_writeByte, h]

theorem push16_eq (s : State) (v : Word) : s.push16 v = ({ s with sp := s.sp - 2 }).writeWord (s.sp - 2) v := rfl

theorem wf_writeByte (s : State) (a : Word) (v : Byte) (h : s.mem.wf = true) : (s.writeByte a v).mem.wf = true := by
  unfold State.writeByte
  split
  · simpa using h
  · exact Memory.wf_write _ _ _ h a.isLt

theorem wf_writeWord (s : State) (a : Word) (v : Word) (h : s.mem.wf = true) : (s.writeWord a v).mem.wf = true := by
  unfold State.writeWord
  split
  · simpa using h
  · exact wf_writeByte _ _ _ (wf_writeByte _ _ _ h)

theorem wf_push16 (s : State) (v : Word) (h : s.mem.wf = true) : (s.push16 v).mem.wf = true := by
  rw [push16_eq]
  exact wf_writeWord _ _ _ h

theorem diag_mono_writeByte (s : State) (a : Word) (v : Byte) : s.diag <+: (s.writeByte a v).diag := by
  rw [diag_writeByte]; split <;> simp

theorem diag_mono_writeWord (s : State) (a : Word) (v : Word) : s.diag <+: (s.writeWord a v).diag := by
  rw [diag_writeWord]; split <;> (try split) <;> simp

/-! ## Bits 3:0 of F (R26) -/

theorem flagsClean_iff (s : State) : s.flagsClean ↔ loByte s.af &&& 15#8 = 0 := Iff.rfl

theorem flagsClean_congr {s t : State} (h : t.af = s.af) : t.flagsClean ↔ s.flagsClean := by
  rw [flagsClean_iff, flagsClean_iff, h]

theorem flagsClean_set8 (s : State) (r : Reg8) (v : Byte) (h : s.flagsClean) : (s.set8 r v).flagsClean := by
  rw [flagsClean_iff] at h ⊢
  cases r <;> simp_all [State.set8, and_F0_and_0F]

theorem flagsClean_set16 (s : State) (r : Reg16) (v : Word) (h : s.flagsClean) : (s.set16 r v).flagsClean := by
  rw [flagsClean_iff] at h ⊢
  cases r <;> simp_all [State.set16, loByte_and_FFF0, and_F0_and_0F]

theorem flagsClean_setFlag (s : State) (f : Flag) (b : Bool) (h : s.flagsClean) : (s.setFlag f b).flagsClean := by
  rw [flagsClean_iff] at h ⊢
  rw [setFlag_af, loByte_mkWord, putBit_and_0F _ _ _ (four_le_flagBit f) (flagBit_lt f), h]

theorem flagsClean_setFlags (s : State) (z n h c : Bool) : (s.setFlags z n h c).flagsClean := by
  rw [flagsClean_iff, setFlags_af, loByte_mkWord, ← flagByte_and_F0, and_F0_and_0F]

/-! ## The populated entries -/

/-- No build populates a gap byte or an illegal byte (R89, R90). -/
theorem populated_documented {p : Populated} {k : Key} (h : populated p k = true) : documented k = true := by
  cases p with
  | full => exact h
  | docNamed =>
    obtain ⟨t, b⟩ := k
    cases t
    · simp only [populated, docNamed, Bool.and_eq_true] at h; exact h.1
    · rfl
  | only entries => simp only [populated, Bool.and_eq_true] at h; exact h.1

/-! ## The unknown-opcode handler -/

/-- What the handler does to the status, the count and `pc` (R106). -/
theorem unknown_cases (s : State) (t : Table) (byte : Byte) :
    (s.build.unknownPolicy = .strict ∧
      s.unknown t byte = { s.log (.unknownOpcode t byte s.pc) with status := .fatal (.unknownOpcode t byte s.pc) }) ∨
    (s.build.unknownPolicy = .permissive ∧ s.unknownCount + 1 > unknownBound ∧
      s.unknown t byte = { s.log (.unknownOpcode t byte s.pc) with
        unknownCount := s.unknownCount + 1, status := .fatal (.unknownBoundExceeded t byte s.pc) }) ∨
    (s.build.unknownPolicy = .permissive ∧ s.unknownCount + 1 ≤ unknownBound ∧
      s.unknown t byte = { s.log (.unknownOpcode t byte s.pc) with
        unknownCount := s.unknownCount + 1, pc := s.pc + BitVec.ofNat 16 s.build.unknownPcAdvance.val }) := by
  cases hp : s.build.unknownPolicy
  · left
    exact ⟨rfl, by simp [State.unknown, State.raiseUnknown, hp]⟩
  · right
    by_cases hb : s.unknownCount + 1 > unknownBound
    · left
      exact ⟨rfl, hb, by simp [State.unknown, State.raiseUnknown, hp, hb]⟩
    · right
      exact ⟨rfl, by omega, by simp [State.unknown, State.raiseUnknown, hp, hb]⟩

end Sys2Proof.Machine
end

