-- ==== Sys2Proof/Laws/Form.lean ====
section
/-! SUPPORT. What an instruction can do, said once: `exec_form` answers every instruction with a next state that one of
some fifty forms computes. A proof about all 512 instructions is a proof about the forms. -/

namespace Sys2Proof.Machine

/-- Where a byte load or store finds its address (R159). -/
inductive Mode where
  | hl | bc | de | c
  | abs (a : Word)
  | high (a : Byte)
deriving DecidableEq, Repr

/-- The address, from the state before the instruction. -/
def Mode.addr (m : Mode) (s : State) : Word :=
  match m with
  | .hl => s.hl
  | .bc => s.bc
  | .de => s.de
  | .c => s.addrC
  | .abs a => a
  | .high a => highPage a

/-- The shapes of the instructions: one constructor per shared operation, with the operands it is called on. -/
inductive Form where
  | aluReg (op : AluOp) (r : Reg8) | aluMem (op : AluOp) | aluImm (op : AluOp) (d : Byte)
  | incReg (r : Reg8) | decReg (r : Reg8) | incMem | decMem
  | adjustDecimal | complementA | setCarry | flipCarry
  | copyReg (dst src : Reg8) | loadImm8 (r : Reg8) (d : Byte) | storeImm (d : Byte)
  | loadAt (r : Reg8) (mode : Mode) (len : Word) (m : Nat) | storeAt (mode : Mode) (r : Reg8) (len : Word) (m : Nat)
  | loadAStep (delta : Word) | storeAStep (delta : Word)
  | loadImm16 (r : Reg16) (d : Word) | storeSp (a : Word) | copyHlToSp | loadHlSpPlus (e : Byte)
  | pushReg (r : Reg16) | popReg (r : Reg16) | popAf
  | jumpRel (e : Byte) | jumpRelIf (cc : Cond) (e : Byte) | jumpTo (a : Word) | jumpToIf (cc : Cond) (a : Word) | jumpHl
  | callTo (a : Word) | callToIf (cc : Cond) (a : Word) | returnPop | returnPopIf (cc : Cond) | restart (t : Nat)
  | stepPair (delta : Word) (r : Reg16) | addToHl (r : Reg16) | addToSp (e : Byte)
  | rotateA (op : ShiftOp) | shiftReg (op : ShiftOp) (r : Reg8) | shiftMem (op : ShiftOp)
  | testBitReg (b : Nat) (r : Reg8) | testBitMem (b : Nat)
  | resBitReg (b : Nat) (r : Reg8) | resBitMem (b : Nat)
  | setBitReg (b : Nat) (r : Reg8) | setBitMem (b : Nat)
  | noOperation | unknownPrimary (byte : Byte) | dispatchCb

/-- The state a form computes. -/
def Form.run (f : Form) (s : State) : State :=
  match f with
  | .aluReg op r => Machine.aluReg op r s
  | .aluMem op => Machine.aluMem op s
  | .aluImm op d => Machine.aluImm op d s
  | .incReg r => stepReg inc8 r s
  | .decReg r => stepReg dec8 r s
  | .incMem => stepMem inc8 s
  | .decMem => stepMem dec8 s
  | .adjustDecimal => Machine.adjustDecimal s
  | .complementA => Machine.complementA s
  | .setCarry => writeCarry true s
  | .flipCarry => writeCarry (!s.flag .c) s
  | .copyReg dst src => Machine.copyReg dst src s
  | .loadImm8 r d => Machine.loadImm8 r d s
  | .storeImm d => storeByte s.hl d 2 3 s
  | .loadAt r mode len m => loadByte r (mode.addr s) len m s
  | .storeAt mode r len m => storeByte (mode.addr s) (s.get8 r) len m s
  | .loadAStep delta => Machine.loadAStep delta s
  | .storeAStep delta => Machine.storeAStep delta s
  | .loadImm16 r d => Machine.loadImm16 r d s
  | .storeSp a => Machine.storeSp a s
  | .copyHlToSp => Machine.copyHlToSp s
  | .loadHlSpPlus e => Machine.loadHlSpPlus e s
  | .pushReg r => Machine.pushReg r s
  | .popReg r => Machine.popReg r s
  | .popAf => Machine.popAf s
  | .jumpRel e => Machine.jumpRel e s
  | .jumpRelIf cc e => Machine.jumpRelIf cc e s
  | .jumpTo a => Machine.jumpTo a s
  | .jumpToIf cc a => Machine.jumpToIf cc a s
  | .jumpHl => Machine.jumpHl s
  | .callTo a => Machine.callTo a s
  | .callToIf cc a => Machine.callToIf cc a s
  | .returnPop => Machine.returnPop s
  | .returnPopIf cc => Machine.returnPopIf cc s
  | .restart t => Machine.restart t s
  | .stepPair delta r => Machine.stepPair delta r s
  | .addToHl r => Machine.addToHl r s
  | .addToSp e => Machine.addToSp e s
  | .rotateA op => Machine.rotateA op s
  | .shiftReg op r => Machine.shiftReg op r s
  | .shiftMem op => Machine.shiftMem op s
  | .testBitReg b r => Machine.testBitReg b r s
  | .testBitMem b => Machine.testBitMem b s
  | .resBitReg b r => Machine.resBitReg b r s
  | .resBitMem b => Machine.resBitMem b s
  | .setBitReg b r => Machine.setBitReg b r s
  | .setBitMem b => Machine.setBitMem b s
  | .noOperation => Machine.noOperation s
  | .unknownPrimary byte => Machine.unknownPrimary byte s
  | .dispatchCb => Machine.dispatchCb s

/-- The form of an instruction. -/
def formOf (i : Instr) : Form :=
  match i with
  | .nop => .noOperation
  | .ldBcD16 d => .loadImm16 .bc d
  | .ldAtBcA => .storeAt .bc .a 1 2
  | .incBc => .stepPair 1 .bc
  | .incB => .incReg .b
  | .decB => .decReg .b
  | .ldBD8 d => .loadImm8 .b d
  | .rlca => .rotateA .rlc
  | .ldAtA16Sp a => .storeSp a
  | .addHlBc => .addToHl .bc
  | .ldAAtBc => .loadAt .a .bc 1 2
  | .decBc => .stepPair (-1) .bc
  | .incC => .incReg .c
  | .decC => .decReg .c
  | .ldCD8 d => .loadImm8 .c d
  | .rrca => .rotateA .rrc
  | .stop => .unknownPrimary 0x10
  | .ldDeD16 d => .loadImm16 .de d
  | .ldAtDeA => .storeAt .de .a 1 2
  | .incDe => .stepPair 1 .de
  | .incD => .incReg .d
  | .decD => .decReg .d
  | .ldDD8 d => .loadImm8 .d d
  | .rla => .rotateA .rl
  | .jrE8 e => .jumpRel e
  | .addHlDe => .addToHl .de
  | .ldAAtDe => .loadAt .a .de 1 2
  | .decDe => .stepPair (-1) .de
  | .incE => .incReg .e
  | .decE => .decReg .e
  | .ldED8 d => .loadImm8 .e d
  | .rra => .rotateA .rr
  | .jrNzE8 e => .jumpRelIf .nz e
  | .ldHlD16 d => .loadImm16 .hl d
  | .ldAtHlIncA => .storeAStep 1
  | .incHl => .stepPair 1 .hl
  | .incH => .incReg .h
  | .decH => .decReg .h
  | .ldHD8 d => .loadImm8 .h d
  | .daa => .adjustDecimal
  | .jrZE8 e => .jumpRelIf .z e
  | .addHlHl => .addToHl .hl
  | .ldAAtHlInc => .loadAStep 1
  | .decHl => .stepPair (-1) .hl
  | .incL => .incReg .l
  | .decL => .decReg .l
  | .ldLD8 d => .loadImm8 .l d
  | .cpl => .complementA
  | .jrNcE8 e => .jumpRelIf .nc e
  | .ldSpD16 d => .loadImm16 .sp d
  | .ldAtHlDecA => .storeAStep (-1)
  | .incSp => .stepPair 1 .sp
  | .incAtHl => .incMem
  | .decAtHl => .decMem
  | .ldAtHlD8 d => .storeImm d
  | .scf => .setCarry
  | .jrCE8 e => .jumpRelIf .c e
  | .addHlSp => .addToHl .sp
  | .ldAAtHlDec => .loadAStep (-1)
  | .decSp => .stepPair (-1) .sp
  | .incA => .incReg .a
  | .decA => .decReg .a
  | .ldAD8 d => .loadImm8 .a d
  | .ccf => .flipCarry
  | .ldBB => .copyReg .b .b
  | .ldBC => .copyReg .b .c
  | .ldBD => .copyReg .b .d
  | .ldBE => .copyReg .b .e
  | .ldBH => .copyReg .b .h
  | .ldBL => .copyReg .b .l
  | .ldBAtHl => .loadAt .b .hl 1 2
  | .ldBA => .copyReg .b .a
  | .ldCB => .copyReg .c .b
  | .ldCC => .copyReg .c .c
  | .ldCD => .copyReg .c .d
  | .ldCE => .copyReg .c .e
  | .ldCH => .copyReg .c .h
  | .ldCL => .copyReg .c .l
  | .ldCAtHl => .loadAt .c .hl 1 2
  | .ldCA => .copyReg .c .a
  | .ldDB => .copyReg .d .b
  | .ldDC => .copyReg .d .c
  | .ldDD => .copyReg .d .d
  | .ldDE => .copyReg .d .e
  | .ldDH => .copyReg .d .h
  | .ldDL => .copyReg .d .l
  | .ldDAtHl => .loadAt .d .hl 1 2
  | .ldDA => .copyReg .d .a
  | .ldEB => .copyReg .e .b
  | .ldEC => .copyReg .e .c
  | .ldED => .copyReg .e .d
  | .ldEE => .copyReg .e .e
  | .ldEH => .copyReg .e .h
  | .ldEL => .copyReg .e .l
  | .ldEAtHl => .loadAt .e .hl 1 2
  | .ldEA => .copyReg .e .a
  | .ldHB => .copyReg .h .b
  | .ldHC => .copyReg .h .c
  | .ldHD => .copyReg .h .d
  | .ldHE => .copyReg .h .e
  | .ldHH => .copyReg .h .h
  | .ldHL => .copyReg .h .l
  | .ldHAtHl => .loadAt .h .hl 1 2
  | .ldHA => .copyReg .h .a
  | .ldLB => .copyReg .l .b
  | .ldLC => .copyReg .l .c
  | .ldLD => .copyReg .l .d
  | .ldLE => .copyReg .l .e
  | .ldLH => .copyReg .l .h
  | .ldLL => .copyReg .l .l
  | .ldLAtHl => .loadAt .l .hl 1 2
  | .ldLA => .copyReg .l .a
  | .ldAtHlB => .storeAt .hl .b 1 2
  | .ldAtHlC => .storeAt .hl .c 1 2
  | .ldAtHlD => .storeAt .hl .d 1 2
  | .ldAtHlE => .storeAt .hl .e 1 2
  | .ldAtHlH => .storeAt .hl .h 1 2
  | .ldAtHlL => .storeAt .hl .l 1 2
  | .halt => .unknownPrimary 0x76
  | .ldAtHlA => .storeAt .hl .a 1 2
  | .ldAB => .copyReg .a .b
  | .ldAC => .copyReg .a .c
  | .ldAD => .copyReg .a .d
  | .ldAE => .copyReg .a .e
  | .ldAH => .copyReg .a .h
  | .ldAL => .copyReg .a .l
  | .ldAAtHl => .loadAt .a .hl 1 2
  | .ldAA => .copyReg .a .a
  | .addAB => .aluReg .add .b
  | .addAC => .aluReg .add .c
  | .addAD => .aluReg .add .d
  | .addAE => .aluReg .add .e
  | .addAH => .aluReg .add .h
  | .addAL => .aluReg .add .l
  | .addAAtHl => .aluMem .add
  | .addAA => .aluReg .add .a
  | .adcAB => .aluReg .adc .b
  | .adcAC => .aluReg .adc .c
  | .adcAD => .aluReg .adc .d
  | .adcAE => .aluReg .adc .e
  | .adcAH => .aluReg .adc .h
  | .adcAL => .aluReg .adc .l
  | .adcAAtHl => .aluMem .adc
  | .adcAA => .aluReg .adc .a
  | .subB => .aluReg .sub .b
  | .subC => .aluReg .sub .c
  | .subD => .aluReg .sub .d
  | .subE => .aluReg .sub .e
  | .subH => .aluReg .sub .h
  | .subL => .aluReg .sub .l
  | .subAtHl => .aluMem .sub
  | .subA => .aluReg .sub .a
  | .sbcAB => .aluReg .sbc .b
  | .sbcAC => .aluReg .sbc .c
  | .sbcAD => .aluReg .sbc .d
  | .sbcAE => .aluReg .sbc .e
  | .sbcAH => .aluReg .sbc .h
  | .sbcAL => .aluReg .sbc .l
  | .sbcAAtHl => .aluMem .sbc
  | .sbcAA => .aluReg .sbc .a
  | .andB => .aluReg .and .b
  | .andC => .aluReg .and .c
  | .andD => .aluReg .and .d
  | .andE => .aluReg .and .e
  | .andH => .aluReg .and .h
  | .andL => .aluReg .and .l
  | .andAtHl => .aluMem .and
  | .andA => .aluReg .and .a
  | .xorB => .aluReg .xor .b
  | .xorC => .aluReg .xor .c
  | .xorD => .aluReg .xor .d
  | .xorE => .aluReg .xor .e
  | .xorH => .aluReg .xor .h
  | .xorL => .aluReg .xor .l
  | .xorAtHl => .aluMem .xor
  | .xorA => .aluReg .xor .a
  | .orB => .aluReg .or .b
  | .orC => .aluReg .or .c
  | .orD => .aluReg .or .d
  | .orE => .aluReg .or .e
  | .orH => .aluReg .or .h
  | .orL => .aluReg .or .l
  | .orAtHl => .aluMem .or
  | .orA => .aluReg .or .a
  | .cpB => .aluReg .cp .b
  | .cpC => .aluReg .cp .c
  | .cpD => .aluReg .cp .d
  | .cpE => .aluReg .cp .e
  | .cpH => .aluReg .cp .h
  | .cpL => .aluReg .cp .l
  | .cpAtHl => .aluMem .cp
  | .cpA => .aluReg .cp .a
  | .retNz => .returnPopIf .nz
  | .popBc => .popReg .bc
  | .jpNzA16 a => .jumpToIf .nz a
  | .jpA16 a => .jumpTo a
  | .callNzA16 a => .callToIf .nz a
  | .pushBc => .pushReg .bc
  | .addAD8 d => .aluImm .add d
  | .rst00 => .restart 0
  | .retZ => .returnPopIf .z
  | .ret => .returnPop
  | .jpZA16 a => .jumpToIf .z a
  | .prefixCb => .dispatchCb
  | .callZA16 a => .callToIf .z a
  | .callA16 a => .callTo a
  | .adcAD8 d => .aluImm .adc d
  | .rst08 => .restart 1
  | .retNc => .returnPopIf .nc
  | .popDe => .popReg .de
  | .jpNcA16 a => .jumpToIf .nc a
  | .illegalD3 => .unknownPrimary 0xD3
  | .callNcA16 a => .callToIf .nc a
  | .pushDe => .pushReg .de
  | .subD8 d => .aluImm .sub d
  | .rst10 => .restart 2
  | .retC => .returnPopIf .c
  | .reti => .unknownPrimary 0xD9
  | .jpCA16 a => .jumpToIf .c a
  | .illegalDB => .unknownPrimary 0xDB
  | .callCA16 a => .callToIf .c a
  | .illegalDD => .unknownPrimary 0xDD
  | .sbcAD8 d => .aluImm .sbc d
  | .rst18 => .restart 3
  | .ldhAtA8A a => .storeAt (.high a) .a 2 3
  | .popHl => .popReg .hl
  | .ldAtCA => .storeAt .c .a 1 2
  | .illegalE3 => .unknownPrimary 0xE3
  | .illegalE4 => .unknownPrimary 0xE4
  | .pushHl => .pushReg .hl
  | .andD8 d => .aluImm .and d
  | .rst20 => .restart 4
  | .addSpE8 e => .addToSp e
  | .jpHl => .jumpHl
  | .ldAtA16A a => .storeAt (.abs a) .a 3 4
  | .illegalEB => .unknownPrimary 0xEB
  | .illegalEC => .unknownPrimary 0xEC
  | .illegalED => .unknownPrimary 0xED
  | .xorD8 d => .aluImm .xor d
  | .rst28 => .restart 5
  | .ldhAAtA8 a => .loadAt .a (.high a) 2 3
  | .popAf => .popAf
  | .ldAAtC => .loadAt .a .c 1 2
  | .di => .unknownPrimary 0xF3
  | .illegalF4 => .unknownPrimary 0xF4
  | .pushAf => .pushReg .af
  | .orD8 d => .aluImm .or d
  | .rst30 => .restart 6
  | .ldHlSpE8 e => .loadHlSpPlus e
  | .ldSpHl => .copyHlToSp
  | .ldAAtA16 a => .loadAt .a (.abs a) 3 4
  | .ei => .unknownPrimary 0xFB
  | .illegalFC => .unknownPrimary 0xFC
  | .illegalFD => .unknownPrimary 0xFD
  | .cpD8 d => .aluImm .cp d
  | .rst38 => .restart 7
  | .rlcB => .shiftReg .rlc .b
  | .rlcC => .shiftReg .rlc .c
  | .rlcD => .shiftReg .rlc .d
  | .rlcE => .shiftReg .rlc .e
  | .rlcH => .shiftReg .rlc .h
  | .rlcL => .shiftReg .rlc .l
  | .rlcAtHl => .shiftMem .rlc
  | .rlcA => .shiftReg .rlc .a
  | .rrcB => .shiftReg .rrc .b
  | .rrcC => .shiftReg .rrc .c
  | .rrcD => .shiftReg .rrc .d
  | .rrcE => .shiftReg .rrc .e
  | .rrcH => .shiftReg .rrc .h
  | .rrcL => .shiftReg .rrc .l
  | .rrcAtHl => .shiftMem .rrc
  | .rrcA => .shiftReg .rrc .a
  | .rlB => .shiftReg .rl .b
  | .rlC => .shiftReg .rl .c
  | .rlD => .shiftReg .rl .d
  | .rlE => .shiftReg .rl .e
  | .rlH => .shiftReg .rl .h
  | .rlL => .shiftReg .rl .l
  | .rlAtHl => .shiftMem .rl
  | .rlA => .shiftReg .rl .a
  | .rrB => .shiftReg .rr .b
  | .rrC => .shiftReg .rr .c
  | .rrD => .shiftReg .rr .d
  | .rrE => .shiftReg .rr .e
  | .rrH => .shiftReg .rr .h
  | .rrL => .shiftReg .rr .l
  | .rrAtHl => .shiftMem .rr
  | .rrA => .shiftReg .rr .a
  | .slaB => .shiftReg .sla .b
  | .slaC => .shiftReg .sla .c
  | .slaD => .shiftReg .sla .d
  | .slaE => .shiftReg .sla .e
  | .slaH => .shiftReg .sla .h
  | .slaL => .shiftReg .sla .l
  | .slaAtHl => .shiftMem .sla
  | .slaA => .shiftReg .sla .a
  | .sraB => .shiftReg .sra .b
  | .sraC => .shiftReg .sra .c
  | .sraD => .shiftReg .sra .d
  | .sraE => .shiftReg .sra .e
  | .sraH => .shiftReg .sra .h
  | .sraL => .shiftReg .sra .l
  | .sraAtHl => .shiftMem .sra
  | .sraA => .shiftReg .sra .a
  | .swapB => .shiftReg .swap .b
  | .swapC => .shiftReg .swap .c
  | .swapD => .shiftReg .swap .d
  | .swapE => .shiftReg .swap .e
  | .swapH => .shiftReg .swap .h
  | .swapL => .shiftReg .swap .l
  | .swapAtHl => .shiftMem .swap
  | .swapA => .shiftReg .swap .a
  | .srlB => .shiftReg .srl .b
  | .srlC => .shiftReg .srl .c
  | .srlD => .shiftReg .srl .d
  | .srlE => .shiftReg .srl .e
  | .srlH => .shiftReg .srl .h
  | .srlL => .shiftReg .srl .l
  | .srlAtHl => .shiftMem .srl
  | .srlA => .shiftReg .srl .a
  | .bit0B => .testBitReg 0 .b
  | .bit0C => .testBitReg 0 .c
  | .bit0D => .testBitReg 0 .d
  | .bit0E => .testBitReg 0 .e
  | .bit0H => .testBitReg 0 .h
  | .bit0L => .testBitReg 0 .l
  | .bit0AtHl => .testBitMem 0
  | .bit0A => .testBitReg 0 .a
  | .bit1B => .testBitReg 1 .b
  | .bit1C => .testBitReg 1 .c
  | .bit1D => .testBitReg 1 .d
  | .bit1E => .testBitReg 1 .e
  | .bit1H => .testBitReg 1 .h
  | .bit1L => .testBitReg 1 .l
  | .bit1AtHl => .testBitMem 1
  | .bit1A => .testBitReg 1 .a
  | .bit2B => .testBitReg 2 .b
  | .bit2C => .testBitReg 2 .c
  | .bit2D => .testBitReg 2 .d
  | .bit2E => .testBitReg 2 .e
  | .bit2H => .testBitReg 2 .h
  | .bit2L => .testBitReg 2 .l
  | .bit2AtHl => .testBitMem 2
  | .bit2A => .testBitReg 2 .a
  | .bit3B => .testBitReg 3 .b
  | .bit3C => .testBitReg 3 .c
  | .bit3D => .testBitReg 3 .d
  | .bit3E => .testBitReg 3 .e
  | .bit3H => .testBitReg 3 .h
  | .bit3L => .testBitReg 3 .l
  | .bit3AtHl => .testBitMem 3
  | .bit3A => .testBitReg 3 .a
  | .bit4B => .testBitReg 4 .b
  | .bit4C => .testBitReg 4 .c
  | .bit4D => .testBitReg 4 .d
  | .bit4E => .testBitReg 4 .e
  | .bit4H => .testBitReg 4 .h
  | .bit4L => .testBitReg 4 .l
  | .bit4AtHl => .testBitMem 4
  | .bit4A => .testBitReg 4 .a
  | .bit5B => .testBitReg 5 .b
  | .bit5C => .testBitReg 5 .c
  | .bit5D => .testBitReg 5 .d
  | .bit5E => .testBitReg 5 .e
  | .bit5H => .testBitReg 5 .h
  | .bit5L => .testBitReg 5 .l
  | .bit5AtHl => .testBitMem 5
  | .bit5A => .testBitReg 5 .a
  | .bit6B => .testBitReg 6 .b
  | .bit6C => .testBitReg 6 .c
  | .bit6D => .testBitReg 6 .d
  | .bit6E => .testBitReg 6 .e
  | .bit6H => .testBitReg 6 .h
  | .bit6L => .testBitReg 6 .l
  | .bit6AtHl => .testBitMem 6
  | .bit6A => .testBitReg 6 .a
  | .bit7B => .testBitReg 7 .b
  | .bit7C => .testBitReg 7 .c
  | .bit7D => .testBitReg 7 .d
  | .bit7E => .testBitReg 7 .e
  | .bit7H => .testBitReg 7 .h
  | .bit7L => .testBitReg 7 .l
  | .bit7AtHl => .testBitMem 7
  | .bit7A => .testBitReg 7 .a
  | .res0B => .resBitReg 0 .b
  | .res0C => .resBitReg 0 .c
  | .res0D => .resBitReg 0 .d
  | .res0E => .resBitReg 0 .e
  | .res0H => .resBitReg 0 .h
  | .res0L => .resBitReg 0 .l
  | .res0AtHl => .resBitMem 0
  | .res0A => .resBitReg 0 .a
  | .res1B => .resBitReg 1 .b
  | .res1C => .resBitReg 1 .c
  | .res1D => .resBitReg 1 .d
  | .res1E => .resBitReg 1 .e
  | .res1H => .resBitReg 1 .h
  | .res1L => .resBitReg 1 .l
  | .res1AtHl => .resBitMem 1
  | .res1A => .resBitReg 1 .a
  | .res2B => .resBitReg 2 .b
  | .res2C => .resBitReg 2 .c
  | .res2D => .resBitReg 2 .d
  | .res2E => .resBitReg 2 .e
  | .res2H => .resBitReg 2 .h
  | .res2L => .resBitReg 2 .l
  | .res2AtHl => .resBitMem 2
  | .res2A => .resBitReg 2 .a
  | .res3B => .resBitReg 3 .b
  | .res3C => .resBitReg 3 .c
  | .res3D => .resBitReg 3 .d
  | .res3E => .resBitReg 3 .e
  | .res3H => .resBitReg 3 .h
  | .res3L => .resBitReg 3 .l
  | .res3AtHl => .resBitMem 3
  | .res3A => .resBitReg 3 .a
  | .res4B => .resBitReg 4 .b
  | .res4C => .resBitReg 4 .c
  | .res4D => .resBitReg 4 .d
  | .res4E => .resBitReg 4 .e
  | .res4H => .resBitReg 4 .h
  | .res4L => .resBitReg 4 .l
  | .res4AtHl => .resBitMem 4
  | .res4A => .resBitReg 4 .a
  | .res5B => .resBitReg 5 .b
  | .res5C => .resBitReg 5 .c
  | .res5D => .resBitReg 5 .d
  | .res5E => .resBitReg 5 .e
  | .res5H => .resBitReg 5 .h
  | .res5L => .resBitReg 5 .l
  | .res5AtHl => .resBitMem 5
  | .res5A => .resBitReg 5 .a
  | .res6B => .resBitReg 6 .b
  | .res6C => .resBitReg 6 .c
  | .res6D => .resBitReg 6 .d
  | .res6E => .resBitReg 6 .e
  | .res6H => .resBitReg 6 .h
  | .res6L => .resBitReg 6 .l
  | .res6AtHl => .resBitMem 6
  | .res6A => .resBitReg 6 .a
  | .res7B => .resBitReg 7 .b
  | .res7C => .resBitReg 7 .c
  | .res7D => .resBitReg 7 .d
  | .res7E => .resBitReg 7 .e
  | .res7H => .resBitReg 7 .h
  | .res7L => .resBitReg 7 .l
  | .res7AtHl => .resBitMem 7
  | .res7A => .resBitReg 7 .a
  | .set0B => .setBitReg 0 .b
  | .set0C => .setBitReg 0 .c
  | .set0D => .setBitReg 0 .d
  | .set0E => .setBitReg 0 .e
  | .set0H => .setBitReg 0 .h
  | .set0L => .setBitReg 0 .l
  | .set0AtHl => .setBitMem 0
  | .set0A => .setBitReg 0 .a
  | .set1B => .setBitReg 1 .b
  | .set1C => .setBitReg 1 .c
  | .set1D => .setBitReg 1 .d
  | .set1E => .setBitReg 1 .e
  | .set1H => .setBitReg 1 .h
  | .set1L => .setBitReg 1 .l
  | .set1AtHl => .setBitMem 1
  | .set1A => .setBitReg 1 .a
  | .set2B => .setBitReg 2 .b
  | .set2C => .setBitReg 2 .c
  | .set2D => .setBitReg 2 .d
  | .set2E => .setBitReg 2 .e
  | .set2H => .setBitReg 2 .h
  | .set2L => .setBitReg 2 .l
  | .set2AtHl => .setBitMem 2
  | .set2A => .setBitReg 2 .a
  | .set3B => .setBitReg 3 .b
  | .set3C => .setBitReg 3 .c
  | .set3D => .setBitReg 3 .d
  | .set3E => .setBitReg 3 .e
  | .set3H => .setBitReg 3 .h
  | .set3L => .setBitReg 3 .l
  | .set3AtHl => .setBitMem 3
  | .set3A => .setBitReg 3 .a
  | .set4B => .setBitReg 4 .b
  | .set4C => .setBitReg 4 .c
  | .set4D => .setBitReg 4 .d
  | .set4E => .setBitReg 4 .e
  | .set4H => .setBitReg 4 .h
  | .set4L => .setBitReg 4 .l
  | .set4AtHl => .setBitMem 4
  | .set4A => .setBitReg 4 .a
  | .set5B => .setBitReg 5 .b
  | .set5C => .setBitReg 5 .c
  | .set5D => .setBitReg 5 .d
  | .set5E => .setBitReg 5 .e
  | .set5H => .setBitReg 5 .h
  | .set5L => .setBitReg 5 .l
  | .set5AtHl => .setBitMem 5
  | .set5A => .setBitReg 5 .a
  | .set6B => .setBitReg 6 .b
  | .set6C => .setBitReg 6 .c
  | .set6D => .setBitReg 6 .d
  | .set6E => .setBitReg 6 .e
  | .set6H => .setBitReg 6 .h
  | .set6L => .setBitReg 6 .l
  | .set6AtHl => .setBitMem 6
  | .set6A => .setBitReg 6 .a
  | .set7B => .setBitReg 7 .b
  | .set7C => .setBitReg 7 .c
  | .set7D => .setBitReg 7 .d
  | .set7E => .setBitReg 7 .e
  | .set7H => .setBitReg 7 .h
  | .set7L => .setBitReg 7 .l
  | .set7AtHl => .setBitMem 7
  | .set7A => .setBitReg 7 .a

/-- Every instruction answers a next state, the one its form computes. -/
theorem exec_form (i : Instr) (s : State) : exec i s = .next ((formOf i).run s) := by
  cases i <;> rfl

/-- The form of the handler of a secondary entry, from the fields of its byte (R85). -/
def formOfCb (sub : Byte) : Form :=
  let y := sub.toNat / 8 % 8
  match sub.toNat / 64, reg8Of (sub.toNat % 8) with
  | 0, some r => .shiftReg (shiftOpOf y) r
  | 0, none => .shiftMem (shiftOpOf y)
  | 1, some r => .testBitReg y r
  | 1, none => .testBitMem y
  | 2, some r => .resBitReg y r
  | 2, none => .resBitMem y
  | _, some r => .setBitReg y r
  | _, none => .setBitMem y

theorem secondaryHandler_form (sub : Byte) (s : State) : secondaryHandler sub s = (formOfCb sub).run s := by
  unfold secondaryHandler formOfCb
  dsimp only
  generalize sub.toNat / 64 = g
  generalize reg8Of (sub.toNat % 8) = r
  cases r <;> rcases g with _ | _ | _ | g <;> rfl

end Sys2Proof.Machine
end

