-- ==== Sys2Proof/Laws/Frame.lean ====
section
/-! SUPPORT. What a populated handler can do, said once over the forms: what it keeps, what its cost is, which bytes it
may store to, and that a populated entry is never the unknown-opcode handler or the 0xCB cell. -/

namespace Sys2Proof.Machine

/-- The form is a documented instruction's: not the unknown-opcode handler, not the 0xCB cell, and its cost, where the
form takes one, is from 1 to 6. -/
def Form.isPlain : Form → Bool
  | .unknownPrimary _ | .dispatchCb => false
  | .loadAt _ _ _ m | .storeAt _ _ _ m => decide (1 ≤ m) && decide (m ≤ 6)
  | _ => true

/-- The addresses a form stores to, from the state before it. -/
def Form.stores (f : Form) (s : State) : List Word :=
  match f with
  | .incMem | .decMem | .storeImm _ | .storeAStep _ | .shiftMem _ | .resBitMem _ | .setBitMem _ => [s.hl]
  | .storeAt mode _ _ _ => [mode.addr s]
  | .storeSp a => wordBytesAt a
  | .pushReg _ | .callTo _ | .restart _ => wordBytesAt s.pushAddr
  | .callToIf cc _ => if s.cond cc then wordBytesAt s.pushAddr else []
  | _ => []

/-- The form may store a byte or a word. -/
def Form.isStore : Form → Bool
  | .incMem | .decMem | .storeImm _ | .storeAStep _ | .shiftMem _ | .resBitMem _ | .setBitMem _ | .storeAt _ _ _ _ => true
  | .storeSp _ | .pushReg _ | .callTo _ | .restart _ | .callToIf _ _ => true
  | _ => false

/-- The stored addresses of an instruction are those of its form. -/
theorem storesOf_form (i : Instr) (s : State) : storesOf i s = (formOf i).stores s := by cases i <;> rfl

/-- The engine's own fields: a documented handler writes none of them (R104). -/
theorem form_run_engine (f : Form) (s : State) (h : f.isPlain = true) :
    (f.run s).status = s.status ∧ (f.run s).unknownCount = s.unknownCount ∧ (f.run s).opcode = s.opcode ∧
      (f.run s).build = s.build := by
  cases f <;>
    simp [Form.run, aluReg, aluMem, aluImm, stepReg, stepMem, adjustDecimal, complementA, writeCarry, copyReg, loadImm8,
      storeByte, loadByte, loadAStep, storeAStep, loadImm16, storeSp, copyHlToSp, loadHlSpPlus, pushReg, popReg, popAf,
      jumpRel, jumpRelIf, jumpTo, jumpToIf, jumpHl, callTo, callToIf, returnPop, returnPopIf, restart, stepPair, addToHl,
      addToSp, rotateA, shiftReg, shiftMem, testBitReg, testBitMem, resBitReg, resBitMem, setBitReg, setBitMem,
      noOperation, Form.isPlain] at h ⊢
  all_goals (split <;> simp)

/-- A documented handler costs 1 to 6 machine cycles. -/
theorem form_run_cycles (f : Form) (s : State) (h : f.isPlain = true) :
    s.cycles + 1 ≤ (f.run s).cycles ∧ (f.run s).cycles ≤ s.cycles + 6 := by
  cases f <;>
    simp [Form.run, aluReg, aluMem, aluImm, stepReg, stepMem, adjustDecimal, complementA, writeCarry, copyReg, loadImm8,
      storeByte, loadByte, loadAStep, storeAStep, loadImm16, storeSp, copyHlToSp, loadHlSpPlus, pushReg, popReg, popAf,
      jumpRel, jumpRelIf, jumpTo, jumpToIf, jumpHl, callTo, callToIf, returnPop, returnPopIf, restart, stepPair, addToHl,
      addToSp, rotateA, shiftReg, shiftMem, testBitReg, testBitMem, resBitReg, resBitMem, setBitReg, setBitMem,
      noOperation, Form.isPlain] at h ⊢
  all_goals first | omega | (split <;> simp)

/-- A form that stores to no address leaves the memory and the stream as they were. -/
theorem form_run_quiet (f : Form) (s : State) (h : f.isPlain = true) (hs : f.isStore = false) :
    (f.run s).mem = s.mem ∧ (f.run s).diag = s.diag := by
  cases f <;> simp [Form.isPlain, Form.isStore] at h hs <;>
    simp [Form.run, aluReg, aluMem, aluImm, stepReg, adjustDecimal, complementA, writeCarry, copyReg, loadImm8,
      loadByte, loadAStep, loadImm16, copyHlToSp, loadHlSpPlus, popReg, popAf, jumpRel, jumpRelIf, jumpTo, jumpToIf,
      jumpHl, returnPop, returnPopIf, stepPair, addToHl, addToSp, rotateA, shiftReg, testBitReg, testBitMem, resBitReg,
      setBitReg, noOperation]
  all_goals (split <;> simp)

theorem diag_mono_push16 (s : State) (v : Word) : s.diag <+: (s.push16 v).diag :=
  diag_mono_writeWord { s with sp := s.sp - 2 } (s.sp - 2) v

/-- What any handler does to the stream is to append (R35). -/
theorem form_run_diag (f : Form) (s : State) (h : f.isPlain = true) : s.diag <+: (f.run s).diag := by
  cases hs : f.isStore
  · rw [(form_run_quiet f s h hs).2]
  · cases f <;> simp [Form.isStore] at hs <;>
      simp [Form.run, stepMem, storeByte, storeAStep, storeSp, pushReg, callTo, callToIf, restart, shiftMem, resBitMem,
        setBitMem, diag_mono_writeByte, diag_mono_writeWord, diag_mono_push16]
    split <;> simp [diag_mono_push16]

/-- Every documented handler keeps the memory's canonical form. -/
theorem form_run_wf (f : Form) (s : State) (h : f.isPlain = true) (hw : s.mem.wf = true) : (f.run s).mem.wf = true := by
  cases hs : f.isStore
  · rwa [(form_run_quiet f s h hs).1]
  · cases f <;> simp [Form.isStore] at hs <;>
      simp [Form.run, stepMem, storeByte, storeAStep, storeSp, pushReg, callTo, callToIf, restart, shiftMem, resBitMem,
        setBitMem, wf_writeByte, wf_writeWord, wf_push16, hw]
    split <;> simp [wf_push16, hw]

/-- A byte write changes no byte at another address. -/
theorem readByte_writeByte_ne (s : State) (a x : Word) (v : Byte) (h : x ≠ a) :
    (s.writeByte a v).readByte x = s.readByte x := by
  rw [readByte_writeByte, if_neg (fun c => h c.1)]

/-- A word write changes no byte but the two at its addresses (R56). -/
theorem readByte_writeWord_ne (s : State) (a x : Word) (v : Word) (h : x ∉ wordBytesAt a) :
    (s.writeWord a v).readByte x = s.readByte x := by
  rw [readByte_writeWord]
  unfold wordBytesAt at h
  split
  · rfl
  · rename_i hr
    rw [if_neg hr] at h
    simp only [List.mem_cons, List.not_mem_nil, or_false, not_or] at h
    rw [if_neg (fun c => h.2 c.1), if_neg h.1]

theorem readByte_push16_ne (s : State) (x : Word) (v : Word) (h : x ∉ wordBytesAt s.pushAddr) :
    (s.push16 v).readByte x = s.readByte x :=
  readByte_writeWord_ne { s with sp := s.sp - 2 } (s.sp - 2) x v h

/-- A documented handler changes no byte but those at the addresses its form stores to. -/
theorem form_run_read (f : Form) (s : State) (h : f.isPlain = true) (x : Word) (hx : x ∉ f.stores s) :
    (f.run s).readByte x = s.readByte x := by
  cases hs : f.isStore
  · unfold State.readByte; rw [(form_run_quiet f s h hs).1]
  · cases f <;> simp [Form.isStore] at hs
    all_goals
      simp [Form.stores] at hx
      simp [Form.run, stepMem, storeByte, storeAStep, storeSp, pushReg, callTo, callToIf, restart, shiftMem, resBitMem,
        setBitMem, readByte_writeByte_ne, readByte_writeWord_ne, readByte_push16_ne, hx]
    split <;> simp_all [readByte_push16_ne]

/-- No documented handler changes a byte below the boundary (R63). -/
theorem form_run_rom (f : Form) (s : State) (h : f.isPlain = true) (x : Word) (hx : isRom x = true) :
    (f.run s).readByte x = s.readByte x := by
  have hb : ∀ (s : State) (a : Word) (v : Byte), (s.writeByte a v).readByte x = s.readByte x := by
    intro s a v
    rw [readByte_writeByte, if_neg]
    rintro ⟨rfl, hr⟩
    rw [hx] at hr
    cases hr
  have hw : ∀ (s : State) (a v : Word), (s.writeWord a v).readByte x = s.readByte x := by
    intro s a v
    unfold State.writeWord
    split
    · simp
    · rw [hb, hb]
  have hp : ∀ (s : State) (v : Word), (s.push16 v).readByte x = s.readByte x := by
    intro s v
    rw [push16_eq, hw]
    rfl
  cases hs : f.isStore
  · unfold State.readByte; rw [(form_run_quiet f s h hs).1]
  · cases f <;> simp [Form.isStore] at hs
    all_goals
      simp [Form.run, stepMem, storeByte, storeAStep, storeSp, pushReg, callTo, callToIf, restart, shiftMem, resBitMem,
        setBitMem, hb, hw, hp]
    split <;> simp [hp]

/-- Every documented handler leaves bits 3:0 of `F` zero (R26). -/
theorem form_run_clean (f : Form) (s : State) (h : f.isPlain = true) (hc : s.flagsClean) : (f.run s).flagsClean := by
  have hr : ∀ (t : State) len m, (t.retire len m).flagsClean ↔ t.flagsClean := fun _ _ _ => flagsClean_congr rfl
  have hj : ∀ (t : State) a m, (t.jump a m).flagsClean ↔ t.flagsClean := fun _ _ _ => flagsClean_congr rfl
  have hb : ∀ (t : State) a v, (t.writeByte a v).flagsClean ↔ t.flagsClean := fun _ _ _ => flagsClean_congr (by simp)
  have hw : ∀ (t : State) a v, (t.writeWord a v).flagsClean ↔ t.flagsClean := fun _ _ _ => flagsClean_congr (by simp)
  have hp : ∀ (t : State) v, (t.push16 v).flagsClean ↔ t.flagsClean := fun _ _ => flagsClean_congr (by simp)
  have hd : ∀ t : State, t.dropWord.flagsClean ↔ t.flagsClean := fun _ => flagsClean_congr rfl
  have hf : ∀ (t : State) f b, (t.setFlag f b).flagsClean ↔ t.flagsClean := by
    intro t f b
    rw [flagsClean_iff, flagsClean_iff, setFlag_af, loByte_mkWord, putBit_and_0F _ _ _ (four_le_flagBit f) (flagBit_lt f)]
  have ha : ∀ op b, (s.aluWrite op b).flagsClean := by
    intro op b
    cases op <;> exact flagsClean_setFlags _ _ _ _ _
  cases f <;>
    simp [Form.run, aluReg, aluMem, aluImm, stepReg, stepMem, adjustDecimal, complementA, writeCarry, copyReg, loadImm8,
      storeByte, loadByte, loadAStep, storeAStep, loadImm16, storeSp, copyHlToSp, loadHlSpPlus, pushReg, popReg, popAf,
      jumpRel, jumpRelIf, jumpTo, jumpToIf, jumpHl, callTo, callToIf, returnPop, returnPopIf, restart, stepPair, addToHl,
      addToSp, rotateA, shiftReg, shiftMem, testBitReg, testBitMem, resBitReg, resBitMem, setBitReg, setBitMem,
      noOperation, Form.isPlain, State.incDecFlags, State.bitFlags, State.shiftFlags, hr, hj, hb, hw, hp, hd, ha, hc,
      flagsClean_set8, flagsClean_set16, hf, flagsClean_setFlags] at h ⊢
  all_goals (split <;> simp [hr, hj, hp, hd, hc])

/-- The form of the instruction an opcode byte selects is a documented one where the entry is (R89, R90, R103). -/
theorem isPlain_fetch (b0 b1 b2 : Byte)
    (h : documented (if b0 = cbByte then (.cb, b1) else (.primary, b0)) = true) :
    (formOf (decodeBytes b0 b1 b2)).isPlain = true := by
  have hcb : ∀ b : Byte, (formOf (secondaryInstr b)).isPlain = true := by decide
  have hp : ∀ b : Byte, (documented (.primary, b) = true → (match primaryEntry b with
      | .f1 i => (formOf i).isPlain
      | .f2 mk => (formOf (mk b1)).isPlain
      | .f3 mk => (formOf (mk (mkWord b2 b1))).isPlain
      | .cbPrefix => true) = true) := of_decide_eq_true rfl
  unfold decodeBytes
  by_cases hb : b0 = cbByte
  · rw [(primaryEntry_cb b0).mpr hb]
    exact hcb b1
  · rw [if_neg hb] at h
    have hp := hp b0 h
    cases he : primaryEntry b0 with
    | cbPrefix => exact absurd ((primaryEntry_cb b0).mp he) hb
    | _ => rw [he] at hp; exact hp

/-- The secondary map is its fields: the cell of a sub-opcode has the form that the fields of the sub-opcode give (R85). -/
theorem formOf_secondaryInstr (b : Byte) : formOf (secondaryInstr b) = formOfCb b := by
  have h : ∀ n < 256, formOf (secondaryInstr (BitVec.ofNat 8 n)) = formOfCb (BitVec.ofNat 8 n) := by
    intro n hn
    interval_cases n <;> rfl
  simpa using h b.toNat b.isLt

/-- What a running state's step is: the form of the fetched instruction, documented, on the state with the byte noted and
the count cleared; or the unknown-opcode handler (R100, R105, R106). -/
theorem step_running (s : State) (h : s.status = .running) :
    (populated s.build.populated s.fetchKey = true ∧ (formOf s.fetchInstr).isPlain = true ∧
      step s = .next ((formOf s.fetchInstr).run (s.noteOpcode s.fetchKey).enterHandler)) ∨
    (populated s.build.populated s.fetchKey = false ∧
      step s = .next ((s.noteOpcode s.fetchKey).unknown s.fetchKey.1 s.fetchKey.2)) := by
  unfold step
  rw [h]
  cases hp : populated s.build.populated s.fetchKey
  · exact .inr ⟨rfl, rfl⟩
  · exact .inl ⟨rfl, isPlain_fetch _ _ _ (populated_documented hp), exec_form _ _⟩

/-- A state that is not running has no step (R34). -/
theorem step_stopped (s : State) (h : s.status ≠ .running) : step s = .fault .notRunning := by
  unfold step
  split
  · exact absurd ‹_› h
  · rfl

end Sys2Proof.Machine
end

