-- ==== Sys2Proof/Laws/PerInstr.lean ====
section
/-! SUPPORT. Statements made for each instruction: the opcode byte alone fixes how many bytes the instruction has. -/

namespace Sys2Proof.Laws

/-- The bytes of a whole instruction are as many as R80 and R81 give its opcode byte. -/
def OpcodeFixesLength.Statement (i : Instr) : Prop :=
  i.wellFormed = true → (primaryEntry ((encode i).headD 0)).byteLength = (encode i).length

theorem OpcodeFixesLength.nop : Statement .nop := fun _ => rfl
theorem OpcodeFixesLength.ldBcD16 (d : Word) : Statement (.ldBcD16 d) := fun _ => show (primaryEntry 0x01).byteLength = 3 from rfl
theorem OpcodeFixesLength.ldAtBcA : Statement .ldAtBcA := fun _ => rfl
theorem OpcodeFixesLength.incBc : Statement .incBc := fun _ => rfl
theorem OpcodeFixesLength.incB : Statement .incB := fun _ => rfl
theorem OpcodeFixesLength.decB : Statement .decB := fun _ => rfl
theorem OpcodeFixesLength.ldBD8 (d : Byte) : Statement (.ldBD8 d) := fun _ => show (primaryEntry 0x06).byteLength = 2 from rfl
theorem OpcodeFixesLength.rlca : Statement .rlca := fun _ => rfl
theorem OpcodeFixesLength.ldAtA16Sp (a : Word) : Statement (.ldAtA16Sp a) := fun _ => show (primaryEntry 0x08).byteLength = 3 from rfl
theorem OpcodeFixesLength.addHlBc : Statement .addHlBc := fun _ => rfl
theorem OpcodeFixesLength.ldAAtBc : Statement .ldAAtBc := fun _ => rfl
theorem OpcodeFixesLength.decBc : Statement .decBc := fun _ => rfl
theorem OpcodeFixesLength.incC : Statement .incC := fun _ => rfl
theorem OpcodeFixesLength.decC : Statement .decC := fun _ => rfl
theorem OpcodeFixesLength.ldCD8 (d : Byte) : Statement (.ldCD8 d) := fun _ => show (primaryEntry 0x0E).byteLength = 2 from rfl
theorem OpcodeFixesLength.rrca : Statement .rrca := fun _ => rfl
theorem OpcodeFixesLength.stop : Statement .stop := fun _ => rfl
theorem OpcodeFixesLength.ldDeD16 (d : Word) : Statement (.ldDeD16 d) := fun _ => show (primaryEntry 0x11).byteLength = 3 from rfl
theorem OpcodeFixesLength.ldAtDeA : Statement .ldAtDeA := fun _ => rfl
theorem OpcodeFixesLength.incDe : Statement .incDe := fun _ => rfl
theorem OpcodeFixesLength.incD : Statement .incD := fun _ => rfl
theorem OpcodeFixesLength.decD : Statement .decD := fun _ => rfl
theorem OpcodeFixesLength.ldDD8 (d : Byte) : Statement (.ldDD8 d) := fun _ => show (primaryEntry 0x16).byteLength = 2 from rfl
theorem OpcodeFixesLength.rla : Statement .rla := fun _ => rfl
theorem OpcodeFixesLength.jrE8 (e : Byte) : Statement (.jrE8 e) := fun _ => show (primaryEntry 0x18).byteLength = 2 from rfl
theorem OpcodeFixesLength.addHlDe : Statement .addHlDe := fun _ => rfl
theorem OpcodeFixesLength.ldAAtDe : Statement .ldAAtDe := fun _ => rfl
theorem OpcodeFixesLength.decDe : Statement .decDe := fun _ => rfl
theorem OpcodeFixesLength.incE : Statement .incE := fun _ => rfl
theorem OpcodeFixesLength.decE : Statement .decE := fun _ => rfl
theorem OpcodeFixesLength.ldED8 (d : Byte) : Statement (.ldED8 d) := fun _ => show (primaryEntry 0x1E).byteLength = 2 from rfl
theorem OpcodeFixesLength.rra : Statement .rra := fun _ => rfl
theorem OpcodeFixesLength.jrNzE8 (e : Byte) : Statement (.jrNzE8 e) := fun _ => show (primaryEntry 0x20).byteLength = 2 from rfl
theorem OpcodeFixesLength.ldHlD16 (d : Word) : Statement (.ldHlD16 d) := fun _ => show (primaryEntry 0x21).byteLength = 3 from rfl
theorem OpcodeFixesLength.ldAtHlIncA : Statement .ldAtHlIncA := fun _ => rfl
theorem OpcodeFixesLength.incHl : Statement .incHl := fun _ => rfl
theorem OpcodeFixesLength.incH : Statement .incH := fun _ => rfl
theorem OpcodeFixesLength.decH : Statement .decH := fun _ => rfl
theorem OpcodeFixesLength.ldHD8 (d : Byte) : Statement (.ldHD8 d) := fun _ => show (primaryEntry 0x26).byteLength = 2 from rfl
theorem OpcodeFixesLength.daa : Statement .daa := fun _ => rfl
theorem OpcodeFixesLength.jrZE8 (e : Byte) : Statement (.jrZE8 e) := fun _ => show (primaryEntry 0x28).byteLength = 2 from rfl
theorem OpcodeFixesLength.addHlHl : Statement .addHlHl := fun _ => rfl
theorem OpcodeFixesLength.ldAAtHlInc : Statement .ldAAtHlInc := fun _ => rfl
theorem OpcodeFixesLength.decHl : Statement .decHl := fun _ => rfl
theorem OpcodeFixesLength.incL : Statement .incL := fun _ => rfl
theorem OpcodeFixesLength.decL : Statement .decL := fun _ => rfl
theorem OpcodeFixesLength.ldLD8 (d : Byte) : Statement (.ldLD8 d) := fun _ => show (primaryEntry 0x2E).byteLength = 2 from rfl
theorem OpcodeFixesLength.cpl : Statement .cpl := fun _ => rfl
theorem OpcodeFixesLength.jrNcE8 (e : Byte) : Statement (.jrNcE8 e) := fun _ => show (primaryEntry 0x30).byteLength = 2 from rfl
theorem OpcodeFixesLength.ldSpD16 (d : Word) : Statement (.ldSpD16 d) := fun _ => show (primaryEntry 0x31).byteLength = 3 from rfl
theorem OpcodeFixesLength.ldAtHlDecA : Statement .ldAtHlDecA := fun _ => rfl
theorem OpcodeFixesLength.incSp : Statement .incSp := fun _ => rfl
theorem OpcodeFixesLength.incAtHl : Statement .incAtHl := fun _ => rfl
theorem OpcodeFixesLength.decAtHl : Statement .decAtHl := fun _ => rfl
theorem OpcodeFixesLength.ldAtHlD8 (d : Byte) : Statement (.ldAtHlD8 d) := fun _ => show (primaryEntry 0x36).byteLength = 2 from rfl
theorem OpcodeFixesLength.scf : Statement .scf := fun _ => rfl
theorem OpcodeFixesLength.jrCE8 (e : Byte) : Statement (.jrCE8 e) := fun _ => show (primaryEntry 0x38).byteLength = 2 from rfl
theorem OpcodeFixesLength.addHlSp : Statement .addHlSp := fun _ => rfl
theorem OpcodeFixesLength.ldAAtHlDec : Statement .ldAAtHlDec := fun _ => rfl
theorem OpcodeFixesLength.decSp : Statement .decSp := fun _ => rfl
theorem OpcodeFixesLength.incA : Statement .incA := fun _ => rfl
theorem OpcodeFixesLength.decA : Statement .decA := fun _ => rfl
theorem OpcodeFixesLength.ldAD8 (d : Byte) : Statement (.ldAD8 d) := fun _ => show (primaryEntry 0x3E).byteLength = 2 from rfl
theorem OpcodeFixesLength.ccf : Statement .ccf := fun _ => rfl
theorem OpcodeFixesLength.ldBB : Statement .ldBB := fun _ => rfl
theorem OpcodeFixesLength.ldBC : Statement .ldBC := fun _ => rfl
theorem OpcodeFixesLength.ldBD : Statement .ldBD := fun _ => rfl
theorem OpcodeFixesLength.ldBE : Statement .ldBE := fun _ => rfl
theorem OpcodeFixesLength.ldBH : Statement .ldBH := fun _ => rfl
theorem OpcodeFixesLength.ldBL : Statement .ldBL := fun _ => rfl
theorem OpcodeFixesLength.ldBAtHl : Statement .ldBAtHl := fun _ => rfl
theorem OpcodeFixesLength.ldBA : Statement .ldBA := fun _ => rfl
theorem OpcodeFixesLength.ldCB : Statement .ldCB := fun _ => rfl
theorem OpcodeFixesLength.ldCC : Statement .ldCC := fun _ => rfl
theorem OpcodeFixesLength.ldCD : Statement .ldCD := fun _ => rfl
theorem OpcodeFixesLength.ldCE : Statement .ldCE := fun _ => rfl
theorem OpcodeFixesLength.ldCH : Statement .ldCH := fun _ => rfl
theorem OpcodeFixesLength.ldCL : Statement .ldCL := fun _ => rfl
theorem OpcodeFixesLength.ldCAtHl : Statement .ldCAtHl := fun _ => rfl
theorem OpcodeFixesLength.ldCA : Statement .ldCA := fun _ => rfl
theorem OpcodeFixesLength.ldDB : Statement .ldDB := fun _ => rfl
theorem OpcodeFixesLength.ldDC : Statement .ldDC := fun _ => rfl
theorem OpcodeFixesLength.ldDD : Statement .ldDD := fun _ => rfl
theorem OpcodeFixesLength.ldDE : Statement .ldDE := fun _ => rfl
theorem OpcodeFixesLength.ldDH : Statement .ldDH := fun _ => rfl
theorem OpcodeFixesLength.ldDL : Statement .ldDL := fun _ => rfl
theorem OpcodeFixesLength.ldDAtHl : Statement .ldDAtHl := fun _ => rfl
theorem OpcodeFixesLength.ldDA : Statement .ldDA := fun _ => rfl
theorem OpcodeFixesLength.ldEB : Statement .ldEB := fun _ => rfl
theorem OpcodeFixesLength.ldEC : Statement .ldEC := fun _ => rfl
theorem OpcodeFixesLength.ldED : Statement .ldED := fun _ => rfl
theorem OpcodeFixesLength.ldEE : Statement .ldEE := fun _ => rfl
theorem OpcodeFixesLength.ldEH : Statement .ldEH := fun _ => rfl
theorem OpcodeFixesLength.ldEL : Statement .ldEL := fun _ => rfl
theorem OpcodeFixesLength.ldEAtHl : Statement .ldEAtHl := fun _ => rfl
theorem OpcodeFixesLength.ldEA : Statement .ldEA := fun _ => rfl
theorem OpcodeFixesLength.ldHB : Statement .ldHB := fun _ => rfl
theorem OpcodeFixesLength.ldHC : Statement .ldHC := fun _ => rfl
theorem OpcodeFixesLength.ldHD : Statement .ldHD := fun _ => rfl
theorem OpcodeFixesLength.ldHE : Statement .ldHE := fun _ => rfl
theorem OpcodeFixesLength.ldHH : Statement .ldHH := fun _ => rfl
theorem OpcodeFixesLength.ldHL : Statement .ldHL := fun _ => rfl
theorem OpcodeFixesLength.ldHAtHl : Statement .ldHAtHl := fun _ => rfl
theorem OpcodeFixesLength.ldHA : Statement .ldHA := fun _ => rfl
theorem OpcodeFixesLength.ldLB : Statement .ldLB := fun _ => rfl
theorem OpcodeFixesLength.ldLC : Statement .ldLC := fun _ => rfl
theorem OpcodeFixesLength.ldLD : Statement .ldLD := fun _ => rfl
theorem OpcodeFixesLength.ldLE : Statement .ldLE := fun _ => rfl
theorem OpcodeFixesLength.ldLH : Statement .ldLH := fun _ => rfl
theorem OpcodeFixesLength.ldLL : Statement .ldLL := fun _ => rfl
theorem OpcodeFixesLength.ldLAtHl : Statement .ldLAtHl := fun _ => rfl
theorem OpcodeFixesLength.ldLA : Statement .ldLA := fun _ => rfl
theorem OpcodeFixesLength.ldAtHlB : Statement .ldAtHlB := fun _ => rfl
theorem OpcodeFixesLength.ldAtHlC : Statement .ldAtHlC := fun _ => rfl
theorem OpcodeFixesLength.ldAtHlD : Statement .ldAtHlD := fun _ => rfl
theorem OpcodeFixesLength.ldAtHlE : Statement .ldAtHlE := fun _ => rfl
theorem OpcodeFixesLength.ldAtHlH : Statement .ldAtHlH := fun _ => rfl
theorem OpcodeFixesLength.ldAtHlL : Statement .ldAtHlL := fun _ => rfl
theorem OpcodeFixesLength.halt : Statement .halt := fun _ => rfl
theorem OpcodeFixesLength.ldAtHlA : Statement .ldAtHlA := fun _ => rfl
theorem OpcodeFixesLength.ldAB : Statement .ldAB := fun _ => rfl
theorem OpcodeFixesLength.ldAC : Statement .ldAC := fun _ => rfl
theorem OpcodeFixesLength.ldAD : Statement .ldAD := fun _ => rfl
theorem OpcodeFixesLength.ldAE : Statement .ldAE := fun _ => rfl
theorem OpcodeFixesLength.ldAH : Statement .ldAH := fun _ => rfl
theorem OpcodeFixesLength.ldAL : Statement .ldAL := fun _ => rfl
theorem OpcodeFixesLength.ldAAtHl : Statement .ldAAtHl := fun _ => rfl
theorem OpcodeFixesLength.ldAA : Statement .ldAA := fun _ => rfl
theorem OpcodeFixesLength.addAB : Statement .addAB := fun _ => rfl
theorem OpcodeFixesLength.addAC : Statement .addAC := fun _ => rfl
theorem OpcodeFixesLength.addAD : Statement .addAD := fun _ => rfl
theorem OpcodeFixesLength.addAE : Statement .addAE := fun _ => rfl
theorem OpcodeFixesLength.addAH : Statement .addAH := fun _ => rfl
theorem OpcodeFixesLength.addAL : Statement .addAL := fun _ => rfl
theorem OpcodeFixesLength.addAAtHl : Statement .addAAtHl := fun _ => rfl
theorem OpcodeFixesLength.addAA : Statement .addAA := fun _ => rfl
theorem OpcodeFixesLength.adcAB : Statement .adcAB := fun _ => rfl
theorem OpcodeFixesLength.adcAC : Statement .adcAC := fun _ => rfl
theorem OpcodeFixesLength.adcAD : Statement .adcAD := fun _ => rfl
theorem OpcodeFixesLength.adcAE : Statement .adcAE := fun _ => rfl
theorem OpcodeFixesLength.adcAH : Statement .adcAH := fun _ => rfl
theorem OpcodeFixesLength.adcAL : Statement .adcAL := fun _ => rfl
theorem OpcodeFixesLength.adcAAtHl : Statement .adcAAtHl := fun _ => rfl
theorem OpcodeFixesLength.adcAA : Statement .adcAA := fun _ => rfl
theorem OpcodeFixesLength.subB : Statement .subB := fun _ => rfl
theorem OpcodeFixesLength.subC : Statement .subC := fun _ => rfl
theorem OpcodeFixesLength.subD : Statement .subD := fun _ => rfl
theorem OpcodeFixesLength.subE : Statement .subE := fun _ => rfl
theorem OpcodeFixesLength.subH : Statement .subH := fun _ => rfl
theorem OpcodeFixesLength.subL : Statement .subL := fun _ => rfl
theorem OpcodeFixesLength.subAtHl : Statement .subAtHl := fun _ => rfl
theorem OpcodeFixesLength.subA : Statement .subA := fun _ => rfl
theorem OpcodeFixesLength.sbcAB : Statement .sbcAB := fun _ => rfl
theorem OpcodeFixesLength.sbcAC : Statement .sbcAC := fun _ => rfl
theorem OpcodeFixesLength.sbcAD : Statement .sbcAD := fun _ => rfl
theorem OpcodeFixesLength.sbcAE : Statement .sbcAE := fun _ => rfl
theorem OpcodeFixesLength.sbcAH : Statement .sbcAH := fun _ => rfl
theorem OpcodeFixesLength.sbcAL : Statement .sbcAL := fun _ => rfl
theorem OpcodeFixesLength.sbcAAtHl : Statement .sbcAAtHl := fun _ => rfl
theorem OpcodeFixesLength.sbcAA : Statement .sbcAA := fun _ => rfl
theorem OpcodeFixesLength.andB : Statement .andB := fun _ => rfl
theorem OpcodeFixesLength.andC : Statement .andC := fun _ => rfl
theorem OpcodeFixesLength.andD : Statement .andD := fun _ => rfl
theorem OpcodeFixesLength.andE : Statement .andE := fun _ => rfl
theorem OpcodeFixesLength.andH : Statement .andH := fun _ => rfl
theorem OpcodeFixesLength.andL : Statement .andL := fun _ => rfl
theorem OpcodeFixesLength.andAtHl : Statement .andAtHl := fun _ => rfl
theorem OpcodeFixesLength.andA : Statement .andA := fun _ => rfl
theorem OpcodeFixesLength.xorB : Statement .xorB := fun _ => rfl
theorem OpcodeFixesLength.xorC : Statement .xorC := fun _ => rfl
theorem OpcodeFixesLength.xorD : Statement .xorD := fun _ => rfl
theorem OpcodeFixesLength.xorE : Statement .xorE := fun _ => rfl
theorem OpcodeFixesLength.xorH : Statement .xorH := fun _ => rfl
theorem OpcodeFixesLength.xorL : Statement .xorL := fun _ => rfl
theorem OpcodeFixesLength.xorAtHl : Statement .xorAtHl := fun _ => rfl
theorem OpcodeFixesLength.xorA : Statement .xorA := fun _ => rfl
theorem OpcodeFixesLength.orB : Statement .orB := fun _ => rfl
theorem OpcodeFixesLength.orC : Statement .orC := fun _ => rfl
theorem OpcodeFixesLength.orD : Statement .orD := fun _ => rfl
theorem OpcodeFixesLength.orE : Statement .orE := fun _ => rfl
theorem OpcodeFixesLength.orH : Statement .orH := fun _ => rfl
theorem OpcodeFixesLength.orL : Statement .orL := fun _ => rfl
theorem OpcodeFixesLength.orAtHl : Statement .orAtHl := fun _ => rfl
theorem OpcodeFixesLength.orA : Statement .orA := fun _ => rfl
theorem OpcodeFixesLength.cpB : Statement .cpB := fun _ => rfl
theorem OpcodeFixesLength.cpC : Statement .cpC := fun _ => rfl
theorem OpcodeFixesLength.cpD : Statement .cpD := fun _ => rfl
theorem OpcodeFixesLength.cpE : Statement .cpE := fun _ => rfl
theorem OpcodeFixesLength.cpH : Statement .cpH := fun _ => rfl
theorem OpcodeFixesLength.cpL : Statement .cpL := fun _ => rfl
theorem OpcodeFixesLength.cpAtHl : Statement .cpAtHl := fun _ => rfl
theorem OpcodeFixesLength.cpA : Statement .cpA := fun _ => rfl
theorem OpcodeFixesLength.retNz : Statement .retNz := fun _ => rfl
theorem OpcodeFixesLength.popBc : Statement .popBc := fun _ => rfl
theorem OpcodeFixesLength.jpNzA16 (a : Word) : Statement (.jpNzA16 a) := fun _ => show (primaryEntry 0xC2).byteLength = 3 from rfl
theorem OpcodeFixesLength.jpA16 (a : Word) : Statement (.jpA16 a) := fun _ => show (primaryEntry 0xC3).byteLength = 3 from rfl
theorem OpcodeFixesLength.callNzA16 (a : Word) : Statement (.callNzA16 a) := fun _ => show (primaryEntry 0xC4).byteLength = 3 from rfl
theorem OpcodeFixesLength.pushBc : Statement .pushBc := fun _ => rfl
theorem OpcodeFixesLength.addAD8 (d : Byte) : Statement (.addAD8 d) := fun _ => show (primaryEntry 0xC6).byteLength = 2 from rfl
theorem OpcodeFixesLength.rst00 : Statement .rst00 := fun _ => rfl
theorem OpcodeFixesLength.retZ : Statement .retZ := fun _ => rfl
theorem OpcodeFixesLength.ret : Statement .ret := fun _ => rfl
theorem OpcodeFixesLength.jpZA16 (a : Word) : Statement (.jpZA16 a) := fun _ => show (primaryEntry 0xCA).byteLength = 3 from rfl
theorem OpcodeFixesLength.prefixCb : Statement .prefixCb := fun h => absurd h (by decide)
theorem OpcodeFixesLength.callZA16 (a : Word) : Statement (.callZA16 a) := fun _ => show (primaryEntry 0xCC).byteLength = 3 from rfl
theorem OpcodeFixesLength.callA16 (a : Word) : Statement (.callA16 a) := fun _ => show (primaryEntry 0xCD).byteLength = 3 from rfl
theorem OpcodeFixesLength.adcAD8 (d : Byte) : Statement (.adcAD8 d) := fun _ => show (primaryEntry 0xCE).byteLength = 2 from rfl
theorem OpcodeFixesLength.rst08 : Statement .rst08 := fun _ => rfl
theorem OpcodeFixesLength.retNc : Statement .retNc := fun _ => rfl
theorem OpcodeFixesLength.popDe : Statement .popDe := fun _ => rfl
theorem OpcodeFixesLength.jpNcA16 (a : Word) : Statement (.jpNcA16 a) := fun _ => show (primaryEntry 0xD2).byteLength = 3 from rfl
theorem OpcodeFixesLength.illegalD3 : Statement .illegalD3 := fun _ => rfl
theorem OpcodeFixesLength.callNcA16 (a : Word) : Statement (.callNcA16 a) := fun _ => show (primaryEntry 0xD4).byteLength = 3 from rfl
theorem OpcodeFixesLength.pushDe : Statement .pushDe := fun _ => rfl
theorem OpcodeFixesLength.subD8 (d : Byte) : Statement (.subD8 d) := fun _ => show (primaryEntry 0xD6).byteLength = 2 from rfl
theorem OpcodeFixesLength.rst10 : Statement .rst10 := fun _ => rfl
theorem OpcodeFixesLength.retC : Statement .retC := fun _ => rfl
theorem OpcodeFixesLength.reti : Statement .reti := fun _ => rfl
theorem OpcodeFixesLength.jpCA16 (a : Word) : Statement (.jpCA16 a) := fun _ => show (primaryEntry 0xDA).byteLength = 3 from rfl
theorem OpcodeFixesLength.illegalDB : Statement .illegalDB := fun _ => rfl
theorem OpcodeFixesLength.callCA16 (a : Word) : Statement (.callCA16 a) := fun _ => show (primaryEntry 0xDC).byteLength = 3 from rfl
theorem OpcodeFixesLength.illegalDD : Statement .illegalDD := fun _ => rfl
theorem OpcodeFixesLength.sbcAD8 (d : Byte) : Statement (.sbcAD8 d) := fun _ => show (primaryEntry 0xDE).byteLength = 2 from rfl
theorem OpcodeFixesLength.rst18 : Statement .rst18 := fun _ => rfl
theorem OpcodeFixesLength.ldhAtA8A (a : Byte) : Statement (.ldhAtA8A a) := fun _ => show (primaryEntry 0xE0).byteLength = 2 from rfl
theorem OpcodeFixesLength.popHl : Statement .popHl := fun _ => rfl
theorem OpcodeFixesLength.ldAtCA : Statement .ldAtCA := fun _ => rfl
theorem OpcodeFixesLength.illegalE3 : Statement .illegalE3 := fun _ => rfl
theorem OpcodeFixesLength.illegalE4 : Statement .illegalE4 := fun _ => rfl
theorem OpcodeFixesLength.pushHl : Statement .pushHl := fun _ => rfl
theorem OpcodeFixesLength.andD8 (d : Byte) : Statement (.andD8 d) := fun _ => show (primaryEntry 0xE6).byteLength = 2 from rfl
theorem OpcodeFixesLength.rst20 : Statement .rst20 := fun _ => rfl
theorem OpcodeFixesLength.addSpE8 (e : Byte) : Statement (.addSpE8 e) := fun _ => show (primaryEntry 0xE8).byteLength = 2 from rfl
theorem OpcodeFixesLength.jpHl : Statement .jpHl := fun _ => rfl
theorem OpcodeFixesLength.ldAtA16A (a : Word) : Statement (.ldAtA16A a) := fun _ => show (primaryEntry 0xEA).byteLength = 3 from rfl
theorem OpcodeFixesLength.illegalEB : Statement .illegalEB := fun _ => rfl
theorem OpcodeFixesLength.illegalEC : Statement .illegalEC := fun _ => rfl
theorem OpcodeFixesLength.illegalED : Statement .illegalED := fun _ => rfl
theorem OpcodeFixesLength.xorD8 (d : Byte) : Statement (.xorD8 d) := fun _ => show (primaryEntry 0xEE).byteLength = 2 from rfl
theorem OpcodeFixesLength.rst28 : Statement .rst28 := fun _ => rfl
theorem OpcodeFixesLength.ldhAAtA8 (a : Byte) : Statement (.ldhAAtA8 a) := fun _ => show (primaryEntry 0xF0).byteLength = 2 from rfl
theorem OpcodeFixesLength.popAf : Statement .popAf := fun _ => rfl
theorem OpcodeFixesLength.ldAAtC : Statement .ldAAtC := fun _ => rfl
theorem OpcodeFixesLength.di : Statement .di := fun _ => rfl
theorem OpcodeFixesLength.illegalF4 : Statement .illegalF4 := fun _ => rfl
theorem OpcodeFixesLength.pushAf : Statement .pushAf := fun _ => rfl
theorem OpcodeFixesLength.orD8 (d : Byte) : Statement (.orD8 d) := fun _ => show (primaryEntry 0xF6).byteLength = 2 from rfl
theorem OpcodeFixesLength.rst30 : Statement .rst30 := fun _ => rfl
theorem OpcodeFixesLength.ldHlSpE8 (e : Byte) : Statement (.ldHlSpE8 e) := fun _ => show (primaryEntry 0xF8).byteLength = 2 from rfl
theorem OpcodeFixesLength.ldSpHl : Statement .ldSpHl := fun _ => rfl
theorem OpcodeFixesLength.ldAAtA16 (a : Word) : Statement (.ldAAtA16 a) := fun _ => show (primaryEntry 0xFA).byteLength = 3 from rfl
theorem OpcodeFixesLength.ei : Statement .ei := fun _ => rfl
theorem OpcodeFixesLength.illegalFC : Statement .illegalFC := fun _ => rfl
theorem OpcodeFixesLength.illegalFD : Statement .illegalFD := fun _ => rfl
theorem OpcodeFixesLength.cpD8 (d : Byte) : Statement (.cpD8 d) := fun _ => show (primaryEntry 0xFE).byteLength = 2 from rfl
theorem OpcodeFixesLength.rst38 : Statement .rst38 := fun _ => rfl
theorem OpcodeFixesLength.rlcB : Statement .rlcB := fun _ => rfl
theorem OpcodeFixesLength.rlcC : Statement .rlcC := fun _ => rfl
theorem OpcodeFixesLength.rlcD : Statement .rlcD := fun _ => rfl
theorem OpcodeFixesLength.rlcE : Statement .rlcE := fun _ => rfl
theorem OpcodeFixesLength.rlcH : Statement .rlcH := fun _ => rfl
theorem OpcodeFixesLength.rlcL : Statement .rlcL := fun _ => rfl
theorem OpcodeFixesLength.rlcAtHl : Statement .rlcAtHl := fun _ => rfl
theorem OpcodeFixesLength.rlcA : Statement .rlcA := fun _ => rfl
theorem OpcodeFixesLength.rrcB : Statement .rrcB := fun _ => rfl
theorem OpcodeFixesLength.rrcC : Statement .rrcC := fun _ => rfl
theorem OpcodeFixesLength.rrcD : Statement .rrcD := fun _ => rfl
theorem OpcodeFixesLength.rrcE : Statement .rrcE := fun _ => rfl
theorem OpcodeFixesLength.rrcH : Statement .rrcH := fun _ => rfl
theorem OpcodeFixesLength.rrcL : Statement .rrcL := fun _ => rfl
theorem OpcodeFixesLength.rrcAtHl : Statement .rrcAtHl := fun _ => rfl
theorem OpcodeFixesLength.rrcA : Statement .rrcA := fun _ => rfl
theorem OpcodeFixesLength.rlB : Statement .rlB := fun _ => rfl
theorem OpcodeFixesLength.rlC : Statement .rlC := fun _ => rfl
theorem OpcodeFixesLength.rlD : Statement .rlD := fun _ => rfl
theorem OpcodeFixesLength.rlE : Statement .rlE := fun _ => rfl
theorem OpcodeFixesLength.rlH : Statement .rlH := fun _ => rfl
theorem OpcodeFixesLength.rlL : Statement .rlL := fun _ => rfl
theorem OpcodeFixesLength.rlAtHl : Statement .rlAtHl := fun _ => rfl
theorem OpcodeFixesLength.rlA : Statement .rlA := fun _ => rfl
theorem OpcodeFixesLength.rrB : Statement .rrB := fun _ => rfl
theorem OpcodeFixesLength.rrC : Statement .rrC := fun _ => rfl
theorem OpcodeFixesLength.rrD : Statement .rrD := fun _ => rfl
theorem OpcodeFixesLength.rrE : Statement .rrE := fun _ => rfl
theorem OpcodeFixesLength.rrH : Statement .rrH := fun _ => rfl
theorem OpcodeFixesLength.rrL : Statement .rrL := fun _ => rfl
theorem OpcodeFixesLength.rrAtHl : Statement .rrAtHl := fun _ => rfl
theorem OpcodeFixesLength.rrA : Statement .rrA := fun _ => rfl
theorem OpcodeFixesLength.slaB : Statement .slaB := fun _ => rfl
theorem OpcodeFixesLength.slaC : Statement .slaC := fun _ => rfl
theorem OpcodeFixesLength.slaD : Statement .slaD := fun _ => rfl
theorem OpcodeFixesLength.slaE : Statement .slaE := fun _ => rfl
theorem OpcodeFixesLength.slaH : Statement .slaH := fun _ => rfl
theorem OpcodeFixesLength.slaL : Statement .slaL := fun _ => rfl
theorem OpcodeFixesLength.slaAtHl : Statement .slaAtHl := fun _ => rfl
theorem OpcodeFixesLength.slaA : Statement .slaA := fun _ => rfl
theorem OpcodeFixesLength.sraB : Statement .sraB := fun _ => rfl
theorem OpcodeFixesLength.sraC : Statement .sraC := fun _ => rfl
theorem OpcodeFixesLength.sraD : Statement .sraD := fun _ => rfl
theorem OpcodeFixesLength.sraE : Statement .sraE := fun _ => rfl
theorem OpcodeFixesLength.sraH : Statement .sraH := fun _ => rfl
theorem OpcodeFixesLength.sraL : Statement .sraL := fun _ => rfl
theorem OpcodeFixesLength.sraAtHl : Statement .sraAtHl := fun _ => rfl
theorem OpcodeFixesLength.sraA : Statement .sraA := fun _ => rfl
theorem OpcodeFixesLength.swapB : Statement .swapB := fun _ => rfl
theorem OpcodeFixesLength.swapC : Statement .swapC := fun _ => rfl
theorem OpcodeFixesLength.swapD : Statement .swapD := fun _ => rfl
theorem OpcodeFixesLength.swapE : Statement .swapE := fun _ => rfl
theorem OpcodeFixesLength.swapH : Statement .swapH := fun _ => rfl
theorem OpcodeFixesLength.swapL : Statement .swapL := fun _ => rfl
theorem OpcodeFixesLength.swapAtHl : Statement .swapAtHl := fun _ => rfl
theorem OpcodeFixesLength.swapA : Statement .swapA := fun _ => rfl
theorem OpcodeFixesLength.srlB : Statement .srlB := fun _ => rfl
theorem OpcodeFixesLength.srlC : Statement .srlC := fun _ => rfl
theorem OpcodeFixesLength.srlD : Statement .srlD := fun _ => rfl
theorem OpcodeFixesLength.srlE : Statement .srlE := fun _ => rfl
theorem OpcodeFixesLength.srlH : Statement .srlH := fun _ => rfl
theorem OpcodeFixesLength.srlL : Statement .srlL := fun _ => rfl
theorem OpcodeFixesLength.srlAtHl : Statement .srlAtHl := fun _ => rfl
theorem OpcodeFixesLength.srlA : Statement .srlA := fun _ => rfl
theorem OpcodeFixesLength.bit0B : Statement .bit0B := fun _ => rfl
theorem OpcodeFixesLength.bit0C : Statement .bit0C := fun _ => rfl
theorem OpcodeFixesLength.bit0D : Statement .bit0D := fun _ => rfl
theorem OpcodeFixesLength.bit0E : Statement .bit0E := fun _ => rfl
theorem OpcodeFixesLength.bit0H : Statement .bit0H := fun _ => rfl
theorem OpcodeFixesLength.bit0L : Statement .bit0L := fun _ => rfl
theorem OpcodeFixesLength.bit0AtHl : Statement .bit0AtHl := fun _ => rfl
theorem OpcodeFixesLength.bit0A : Statement .bit0A := fun _ => rfl
theorem OpcodeFixesLength.bit1B : Statement .bit1B := fun _ => rfl
theorem OpcodeFixesLength.bit1C : Statement .bit1C := fun _ => rfl
theorem OpcodeFixesLength.bit1D : Statement .bit1D := fun _ => rfl
theorem OpcodeFixesLength.bit1E : Statement .bit1E := fun _ => rfl
theorem OpcodeFixesLength.bit1H : Statement .bit1H := fun _ => rfl
theorem OpcodeFixesLength.bit1L : Statement .bit1L := fun _ => rfl
theorem OpcodeFixesLength.bit1AtHl : Statement .bit1AtHl := fun _ => rfl
theorem OpcodeFixesLength.bit1A : Statement .bit1A := fun _ => rfl
theorem OpcodeFixesLength.bit2B : Statement .bit2B := fun _ => rfl
theorem OpcodeFixesLength.bit2C : Statement .bit2C := fun _ => rfl
theorem OpcodeFixesLength.bit2D : Statement .bit2D := fun _ => rfl
theorem OpcodeFixesLength.bit2E : Statement .bit2E := fun _ => rfl
theorem OpcodeFixesLength.bit2H : Statement .bit2H := fun _ => rfl
theorem OpcodeFixesLength.bit2L : Statement .bit2L := fun _ => rfl
theorem OpcodeFixesLength.bit2AtHl : Statement .bit2AtHl := fun _ => rfl
theorem OpcodeFixesLength.bit2A : Statement .bit2A := fun _ => rfl
theorem OpcodeFixesLength.bit3B : Statement .bit3B := fun _ => rfl
theorem OpcodeFixesLength.bit3C : Statement .bit3C := fun _ => rfl
theorem OpcodeFixesLength.bit3D : Statement .bit3D := fun _ => rfl
theorem OpcodeFixesLength.bit3E : Statement .bit3E := fun _ => rfl
theorem OpcodeFixesLength.bit3H : Statement .bit3H := fun _ => rfl
theorem OpcodeFixesLength.bit3L : Statement .bit3L := fun _ => rfl
theorem OpcodeFixesLength.bit3AtHl : Statement .bit3AtHl := fun _ => rfl
theorem OpcodeFixesLength.bit3A : Statement .bit3A := fun _ => rfl
theorem OpcodeFixesLength.bit4B : Statement .bit4B := fun _ => rfl
theorem OpcodeFixesLength.bit4C : Statement .bit4C := fun _ => rfl
theorem OpcodeFixesLength.bit4D : Statement .bit4D := fun _ => rfl
theorem OpcodeFixesLength.bit4E : Statement .bit4E := fun _ => rfl
theorem OpcodeFixesLength.bit4H : Statement .bit4H := fun _ => rfl
theorem OpcodeFixesLength.bit4L : Statement .bit4L := fun _ => rfl
theorem OpcodeFixesLength.bit4AtHl : Statement .bit4AtHl := fun _ => rfl
theorem OpcodeFixesLength.bit4A : Statement .bit4A := fun _ => rfl
theorem OpcodeFixesLength.bit5B : Statement .bit5B := fun _ => rfl
theorem OpcodeFixesLength.bit5C : Statement .bit5C := fun _ => rfl
theorem OpcodeFixesLength.bit5D : Statement .bit5D := fun _ => rfl
theorem OpcodeFixesLength.bit5E : Statement .bit5E := fun _ => rfl
theorem OpcodeFixesLength.bit5H : Statement .bit5H := fun _ => rfl
theorem OpcodeFixesLength.bit5L : Statement .bit5L := fun _ => rfl
theorem OpcodeFixesLength.bit5AtHl : Statement .bit5AtHl := fun _ => rfl
theorem OpcodeFixesLength.bit5A : Statement .bit5A := fun _ => rfl
theorem OpcodeFixesLength.bit6B : Statement .bit6B := fun _ => rfl
theorem OpcodeFixesLength.bit6C : Statement .bit6C := fun _ => rfl
theorem OpcodeFixesLength.bit6D : Statement .bit6D := fun _ => rfl
theorem OpcodeFixesLength.bit6E : Statement .bit6E := fun _ => rfl
theorem OpcodeFixesLength.bit6H : Statement .bit6H := fun _ => rfl
theorem OpcodeFixesLength.bit6L : Statement .bit6L := fun _ => rfl
theorem OpcodeFixesLength.bit6AtHl : Statement .bit6AtHl := fun _ => rfl
theorem OpcodeFixesLength.bit6A : Statement .bit6A := fun _ => rfl
theorem OpcodeFixesLength.bit7B : Statement .bit7B := fun _ => rfl
theorem OpcodeFixesLength.bit7C : Statement .bit7C := fun _ => rfl
theorem OpcodeFixesLength.bit7D : Statement .bit7D := fun _ => rfl
theorem OpcodeFixesLength.bit7E : Statement .bit7E := fun _ => rfl
theorem OpcodeFixesLength.bit7H : Statement .bit7H := fun _ => rfl
theorem OpcodeFixesLength.bit7L : Statement .bit7L := fun _ => rfl
theorem OpcodeFixesLength.bit7AtHl : Statement .bit7AtHl := fun _ => rfl
theorem OpcodeFixesLength.bit7A : Statement .bit7A := fun _ => rfl
theorem OpcodeFixesLength.res0B : Statement .res0B := fun _ => rfl
theorem OpcodeFixesLength.res0C : Statement .res0C := fun _ => rfl
theorem OpcodeFixesLength.res0D : Statement .res0D := fun _ => rfl
theorem OpcodeFixesLength.res0E : Statement .res0E := fun _ => rfl
theorem OpcodeFixesLength.res0H : Statement .res0H := fun _ => rfl
theorem OpcodeFixesLength.res0L : Statement .res0L := fun _ => rfl
theorem OpcodeFixesLength.res0AtHl : Statement .res0AtHl := fun _ => rfl
theorem OpcodeFixesLength.res0A : Statement .res0A := fun _ => rfl
theorem OpcodeFixesLength.res1B : Statement .res1B := fun _ => rfl
theorem OpcodeFixesLength.res1C : Statement .res1C := fun _ => rfl
theorem OpcodeFixesLength.res1D : Statement .res1D := fun _ => rfl
theorem OpcodeFixesLength.res1E : Statement .res1E := fun _ => rfl
theorem OpcodeFixesLength.res1H : Statement .res1H := fun _ => rfl
theorem OpcodeFixesLength.res1L : Statement .res1L := fun _ => rfl
theorem OpcodeFixesLength.res1AtHl : Statement .res1AtHl := fun _ => rfl
theorem OpcodeFixesLength.res1A : Statement .res1A := fun _ => rfl
theorem OpcodeFixesLength.res2B : Statement .res2B := fun _ => rfl
theorem OpcodeFixesLength.res2C : Statement .res2C := fun _ => rfl
theorem OpcodeFixesLength.res2D : Statement .res2D := fun _ => rfl
theorem OpcodeFixesLength.res2E : Statement .res2E := fun _ => rfl
theorem OpcodeFixesLength.res2H : Statement .res2H := fun _ => rfl
theorem OpcodeFixesLength.res2L : Statement .res2L := fun _ => rfl
theorem OpcodeFixesLength.res2AtHl : Statement .res2AtHl := fun _ => rfl
theorem OpcodeFixesLength.res2A : Statement .res2A := fun _ => rfl
theorem OpcodeFixesLength.res3B : Statement .res3B := fun _ => rfl
theorem OpcodeFixesLength.res3C : Statement .res3C := fun _ => rfl
theorem OpcodeFixesLength.res3D : Statement .res3D := fun _ => rfl
theorem OpcodeFixesLength.res3E : Statement .res3E := fun _ => rfl
theorem OpcodeFixesLength.res3H : Statement .res3H := fun _ => rfl
theorem OpcodeFixesLength.res3L : Statement .res3L := fun _ => rfl
theorem OpcodeFixesLength.res3AtHl : Statement .res3AtHl := fun _ => rfl
theorem OpcodeFixesLength.res3A : Statement .res3A := fun _ => rfl
theorem OpcodeFixesLength.res4B : Statement .res4B := fun _ => rfl
theorem OpcodeFixesLength.res4C : Statement .res4C := fun _ => rfl
theorem OpcodeFixesLength.res4D : Statement .res4D := fun _ => rfl
theorem OpcodeFixesLength.res4E : Statement .res4E := fun _ => rfl
theorem OpcodeFixesLength.res4H : Statement .res4H := fun _ => rfl
theorem OpcodeFixesLength.res4L : Statement .res4L := fun _ => rfl
theorem OpcodeFixesLength.res4AtHl : Statement .res4AtHl := fun _ => rfl
theorem OpcodeFixesLength.res4A : Statement .res4A := fun _ => rfl
theorem OpcodeFixesLength.res5B : Statement .res5B := fun _ => rfl
theorem OpcodeFixesLength.res5C : Statement .res5C := fun _ => rfl
theorem OpcodeFixesLength.res5D : Statement .res5D := fun _ => rfl
theorem OpcodeFixesLength.res5E : Statement .res5E := fun _ => rfl
theorem OpcodeFixesLength.res5H : Statement .res5H := fun _ => rfl
theorem OpcodeFixesLength.res5L : Statement .res5L := fun _ => rfl
theorem OpcodeFixesLength.res5AtHl : Statement .res5AtHl := fun _ => rfl
theorem OpcodeFixesLength.res5A : Statement .res5A := fun _ => rfl
theorem OpcodeFixesLength.res6B : Statement .res6B := fun _ => rfl
theorem OpcodeFixesLength.res6C : Statement .res6C := fun _ => rfl
theorem OpcodeFixesLength.res6D : Statement .res6D := fun _ => rfl
theorem OpcodeFixesLength.res6E : Statement .res6E := fun _ => rfl
theorem OpcodeFixesLength.res6H : Statement .res6H := fun _ => rfl
theorem OpcodeFixesLength.res6L : Statement .res6L := fun _ => rfl
theorem OpcodeFixesLength.res6AtHl : Statement .res6AtHl := fun _ => rfl
theorem OpcodeFixesLength.res6A : Statement .res6A := fun _ => rfl
theorem OpcodeFixesLength.res7B : Statement .res7B := fun _ => rfl
theorem OpcodeFixesLength.res7C : Statement .res7C := fun _ => rfl
theorem OpcodeFixesLength.res7D : Statement .res7D := fun _ => rfl
theorem OpcodeFixesLength.res7E : Statement .res7E := fun _ => rfl
theorem OpcodeFixesLength.res7H : Statement .res7H := fun _ => rfl
theorem OpcodeFixesLength.res7L : Statement .res7L := fun _ => rfl
theorem OpcodeFixesLength.res7AtHl : Statement .res7AtHl := fun _ => rfl
theorem OpcodeFixesLength.res7A : Statement .res7A := fun _ => rfl
theorem OpcodeFixesLength.set0B : Statement .set0B := fun _ => rfl
theorem OpcodeFixesLength.set0C : Statement .set0C := fun _ => rfl
theorem OpcodeFixesLength.set0D : Statement .set0D := fun _ => rfl
theorem OpcodeFixesLength.set0E : Statement .set0E := fun _ => rfl
theorem OpcodeFixesLength.set0H : Statement .set0H := fun _ => rfl
theorem OpcodeFixesLength.set0L : Statement .set0L := fun _ => rfl
theorem OpcodeFixesLength.set0AtHl : Statement .set0AtHl := fun _ => rfl
theorem OpcodeFixesLength.set0A : Statement .set0A := fun _ => rfl
theorem OpcodeFixesLength.set1B : Statement .set1B := fun _ => rfl
theorem OpcodeFixesLength.set1C : Statement .set1C := fun _ => rfl
theorem OpcodeFixesLength.set1D : Statement .set1D := fun _ => rfl
theorem OpcodeFixesLength.set1E : Statement .set1E := fun _ => rfl
theorem OpcodeFixesLength.set1H : Statement .set1H := fun _ => rfl
theorem OpcodeFixesLength.set1L : Statement .set1L := fun _ => rfl
theorem OpcodeFixesLength.set1AtHl : Statement .set1AtHl := fun _ => rfl
theorem OpcodeFixesLength.set1A : Statement .set1A := fun _ => rfl
theorem OpcodeFixesLength.set2B : Statement .set2B := fun _ => rfl
theorem OpcodeFixesLength.set2C : Statement .set2C := fun _ => rfl
theorem OpcodeFixesLength.set2D : Statement .set2D := fun _ => rfl
theorem OpcodeFixesLength.set2E : Statement .set2E := fun _ => rfl
theorem OpcodeFixesLength.set2H : Statement .set2H := fun _ => rfl
theorem OpcodeFixesLength.set2L : Statement .set2L := fun _ => rfl
theorem OpcodeFixesLength.set2AtHl : Statement .set2AtHl := fun _ => rfl
theorem OpcodeFixesLength.set2A : Statement .set2A := fun _ => rfl
theorem OpcodeFixesLength.set3B : Statement .set3B := fun _ => rfl
theorem OpcodeFixesLength.set3C : Statement .set3C := fun _ => rfl
theorem OpcodeFixesLength.set3D : Statement .set3D := fun _ => rfl
theorem OpcodeFixesLength.set3E : Statement .set3E := fun _ => rfl
theorem OpcodeFixesLength.set3H : Statement .set3H := fun _ => rfl
theorem OpcodeFixesLength.set3L : Statement .set3L := fun _ => rfl
theorem OpcodeFixesLength.set3AtHl : Statement .set3AtHl := fun _ => rfl
theorem OpcodeFixesLength.set3A : Statement .set3A := fun _ => rfl
theorem OpcodeFixesLength.set4B : Statement .set4B := fun _ => rfl
theorem OpcodeFixesLength.set4C : Statement .set4C := fun _ => rfl
theorem OpcodeFixesLength.set4D : Statement .set4D := fun _ => rfl
theorem OpcodeFixesLength.set4E : Statement .set4E := fun _ => rfl
theorem OpcodeFixesLength.set4H : Statement .set4H := fun _ => rfl
theorem OpcodeFixesLength.set4L : Statement .set4L := fun _ => rfl
theorem OpcodeFixesLength.set4AtHl : Statement .set4AtHl := fun _ => rfl
theorem OpcodeFixesLength.set4A : Statement .set4A := fun _ => rfl
theorem OpcodeFixesLength.set5B : Statement .set5B := fun _ => rfl
theorem OpcodeFixesLength.set5C : Statement .set5C := fun _ => rfl
theorem OpcodeFixesLength.set5D : Statement .set5D := fun _ => rfl
theorem OpcodeFixesLength.set5E : Statement .set5E := fun _ => rfl
theorem OpcodeFixesLength.set5H : Statement .set5H := fun _ => rfl
theorem OpcodeFixesLength.set5L : Statement .set5L := fun _ => rfl
theorem OpcodeFixesLength.set5AtHl : Statement .set5AtHl := fun _ => rfl
theorem OpcodeFixesLength.set5A : Statement .set5A := fun _ => rfl
theorem OpcodeFixesLength.set6B : Statement .set6B := fun _ => rfl
theorem OpcodeFixesLength.set6C : Statement .set6C := fun _ => rfl
theorem OpcodeFixesLength.set6D : Statement .set6D := fun _ => rfl
theorem OpcodeFixesLength.set6E : Statement .set6E := fun _ => rfl
theorem OpcodeFixesLength.set6H : Statement .set6H := fun _ => rfl
theorem OpcodeFixesLength.set6L : Statement .set6L := fun _ => rfl
theorem OpcodeFixesLength.set6AtHl : Statement .set6AtHl := fun _ => rfl
theorem OpcodeFixesLength.set6A : Statement .set6A := fun _ => rfl
theorem OpcodeFixesLength.set7B : Statement .set7B := fun _ => rfl
theorem OpcodeFixesLength.set7C : Statement .set7C := fun _ => rfl
theorem OpcodeFixesLength.set7D : Statement .set7D := fun _ => rfl
theorem OpcodeFixesLength.set7E : Statement .set7E := fun _ => rfl
theorem OpcodeFixesLength.set7H : Statement .set7H := fun _ => rfl
theorem OpcodeFixesLength.set7L : Statement .set7L := fun _ => rfl
theorem OpcodeFixesLength.set7AtHl : Statement .set7AtHl := fun _ => rfl
theorem OpcodeFixesLength.set7A : Statement .set7A := fun _ => rfl

end Sys2Proof.Laws
end

