-- ==== Sys2Proof/Tests/Slice0.lean ====
section
/-! SUPPORT. The model's own tests: the well-formedness smoke test, decoding from words written out from the spec's
encodings, single steps whose expected results are the vectors of spec/95_test_vectors.md (each named by its number), and
for every statement with hypotheses a witness that meets them. -/

namespace Sys2Proof.Tests

open Machine Claims

/-! ## Helpers -/

/-- The state after reset with `pc`, code from it on, register halves and memory bytes given. -/
def start (pc : Word) (code : List Byte) (regs : List (Reg8 × Byte)) (cells : List (Word × Byte)) : State :=
  let s := regs.foldl (fun s r => s.set8 r.1 r.2) { State.reset with pc := pc }
  (cells.foldl (fun s c => s.placeBytes c.1 [c.2]) s).placeBytes pc code

/-- One step answers a next state with these values. -/
def ends (s : State) (pc : Word) (cycles : Nat) (sp : Word) (regs : List (Reg8 × Byte)) (cells : List (Word × Byte))
    (events : List DiagEvent) (status : Status) : Bool :=
  match step s with
  | .next t =>
    t.pc == pc && t.cycles == cycles && t.sp == sp && regs.all (fun r => t.get8 r.1 == r.2) &&
      cells.all (fun c => t.readByte c.1 == c.2) && decide (t.diag = events) && decide (t.status = status)
  | _ => false

/-! ## Well-formedness: the one check, and a term it refuses -/

theorem test_ill_formed_prefix : Instr.prefixCb.wellFormed = false := by decide
theorem test_well_formed_secondary : Instr.set1E.wellFormed = true := by decide

/-! ## Decoding -/

theorem test_decode_nop : decode [0b00000000] = .ok (.nop, []) := by decide
theorem test_decode_ld_r_r : decode [0b01010000] = .ok (.ldDB, []) := by decide
theorem test_decode_ld_a_a : decode [0b01111111] = .ok (.ldAA, []) := by decide
theorem test_decode_ld_r_hl : decode [0b01100110] = .ok (.ldHAtHl, []) := by decide
theorem test_decode_ld_hl_r : decode [0b01110101] = .ok (.ldAtHlL, []) := by decide
theorem test_decode_ld_r_d8 : decode [0b00111110, 0x2A] = .ok (.ldAD8 0x2A, []) := by decide
theorem test_decode_ld_hl_d8 : decode [0b00110110, 0x42] = .ok (.ldAtHlD8 0x42, []) := by decide
theorem test_decode_ld_a_bc : decode [0b00001010] = .ok (.ldAAtBc, []) := by decide
theorem test_decode_ld_de_a : decode [0b00010010] = .ok (.ldAtDeA, []) := by decide
theorem test_decode_ld_hlinc_a : decode [0b00100010] = .ok (.ldAtHlIncA, []) := by decide
theorem test_decode_ld_a_hldec : decode [0b00111010] = .ok (.ldAAtHlDec, []) := by decide
theorem test_decode_ld_a_a16 : decode [0b11111010, 0x34, 0x12] = .ok (.ldAAtA16 0x1234, []) := by decide
theorem test_decode_ldh_a8_a : decode [0b11100000, 0x80] = .ok (.ldhAtA8A 0x80, []) := by decide
theorem test_decode_ld_a_c : decode [0b11110010] = .ok (.ldAAtC, []) := by decide
theorem test_decode_ld_rr_d16 : decode [0b00110001, 0x00, 0xE0] = .ok (.ldSpD16 0xE000, []) := by decide
theorem test_decode_ld_a16_sp : decode [0b00001000, 0x00, 0xC4] = .ok (.ldAtA16Sp 0xC400, []) := by decide
theorem test_decode_ld_sp_hl : decode [0b11111001] = .ok (.ldSpHl, []) := by decide
theorem test_decode_ld_hl_sp_e8 : decode [0b11111000, 0xFF] = .ok (.ldHlSpE8 0xFF, []) := by decide
theorem test_decode_push : decode [0b11110101] = .ok (.pushAf, []) := by decide
theorem test_decode_pop : decode [0b11010001] = .ok (.popDe, []) := by decide
theorem test_decode_add : decode [0b10000000] = .ok (.addAB, []) := by decide
theorem test_decode_adc_hl : decode [0b10001110] = .ok (.adcAAtHl, []) := by decide
theorem test_decode_sub_d8 : decode [0b11010110, 0x01] = .ok (.subD8 0x01, []) := by decide
theorem test_decode_sbc : decode [0b10011111] = .ok (.sbcAA, []) := by decide
theorem test_decode_and : decode [0b10100001] = .ok (.andC, []) := by decide
theorem test_decode_xor_d8 : decode [0b11101110, 0xFF] = .ok (.xorD8 0xFF, []) := by decide
theorem test_decode_or_hl : decode [0b10110110] = .ok (.orAtHl, []) := by decide
theorem test_decode_cp : decode [0b10111101] = .ok (.cpL, []) := by decide
theorem test_decode_inc : decode [0b00001100] = .ok (.incC, []) := by decide
theorem test_decode_dec_hl : decode [0b00110101] = .ok (.decAtHl, []) := by decide
theorem test_decode_daa : decode [0b00100111] = .ok (.daa, []) := by decide
theorem test_decode_ccf : decode [0b00111111] = .ok (.ccf, []) := by decide
theorem test_decode_jr : decode [0b00011000, 0xFE] = .ok (.jrE8 0xFE, []) := by decide
theorem test_decode_jr_cc : decode [0b00110000, 0x05] = .ok (.jrNcE8 0x05, []) := by decide
theorem test_decode_jp : decode [0b11000011, 0x50, 0x01] = .ok (.jpA16 0x0150, []) := by decide
theorem test_decode_jp_cc : decode [0b11011010, 0x50, 0x01] = .ok (.jpCA16 0x0150, []) := by decide
theorem test_decode_jp_hl : decode [0b11101001] = .ok (.jpHl, []) := by decide
theorem test_decode_call_cc : decode [0b11000100, 0x00, 0x02] = .ok (.callNzA16 0x0200, []) := by decide
theorem test_decode_ret_cc : decode [0b11001000] = .ok (.retZ, []) := by decide
theorem test_decode_rst : decode [0b11011111] = .ok (.rst18, []) := by decide
theorem test_decode_inc_rr : decode [0b00110011] = .ok (.incSp, []) := by decide
theorem test_decode_dec_rr : decode [0b00011011] = .ok (.decDe, []) := by decide
theorem test_decode_add_hl : decode [0b00101001] = .ok (.addHlHl, []) := by decide
theorem test_decode_add_sp : decode [0b11101000, 0x08] = .ok (.addSpE8 0x08, []) := by decide
theorem test_decode_rla : decode [0b00010111] = .ok (.rla, []) := by decide
theorem test_decode_rlc : decode [0xCB, 0b00000110] = .ok (.rlcAtHl, []) := by decide
theorem test_decode_sra : decode [0xCB, 0b00101100] = .ok (.sraH, []) := by decide
theorem test_decode_bit : decode [0xCB, 0b01111100] = .ok (.bit7H, []) := by decide
theorem test_decode_res_hl : decode [0xCB, 0b10111110] = .ok (.res7AtHl, []) := by decide
theorem test_decode_set : decode [0xCB, 0b11001011] = .ok (.set1E, []) := by decide
theorem test_decode_halt : decode [0b01110110] = .ok (.halt, []) := by decide
theorem test_decode_stop : decode [0b00010000] = .ok (.stop, []) := by decide
theorem test_decode_reti : decode [0b11011001] = .ok (.reti, []) := by decide
theorem test_decode_di : decode [0b11110011] = .ok (.di, []) := by decide
theorem test_decode_ei : decode [0b11111011] = .ok (.ei, []) := by decide
theorem test_decode_illegal : decode [0b11010011] = .ok (.illegalD3, []) := by decide

/-- A string that ends inside an instruction is rejected by name. -/
theorem test_decode_operand_missing : decode [0x3E] = .error (.operandMissing 0x3E) := by decide
theorem test_decode_word_missing : decode [0xC3, 0x50] = .error (.operandMissing 0xC3) := by decide
theorem test_decode_no_bytes : decode [] = .error .noBytes := by decide
/-- The 0xCB byte alone is the cell PREFIX CB; followed by a byte it is never that cell. -/
theorem test_decode_prefix_alone : decode [0xCB] = .ok (.prefixCb, []) := by decide
theorem test_decode_leaves_the_rest : decode [0x06, 0x07, 0x08] = .ok (.ldBD8 0x07, [0x08]) := by decide
/-- Table words: bits 7:0 are the first byte; operand bytes the word does not reach are 0. -/
theorem test_table_word_cb : decodeTableWord 16 0x7CCB = some .bit7H := by decide
theorem test_table_word_operand_zero : decodeTableWord 8 0xC3 = some (.jpA16 0) := by decide
theorem test_table_word_runs : ends (State.reset.withFetchWord 16 0x7CCB) 0x0102 2 0xFFFE [(.f, 0xB0)] [] [] .running = true := by
  decide
theorem test_encode_word : encode (.jpA16 0x0150) = [0xC3, 0x50, 0x01] := by decide

/-! ## The host's side -/

/-- The dump R341 gives for the reset state. -/
theorem test_dump :
    State.reset.dump.map String.ofList = some "0100 01B0 0013 00D8 014D FFFE 0000000000000000" := by decide
theorem test_quit_before_the_step : runLoop [true] State.reset = .next { State.reset with status := .quit } := rfl
theorem test_image_too_long : create Build.default BootRegs.default (some (List.replicate 0x8001 0)) =
    .error (.imageRefused (some 0x8001)) := by
  simp only [create, List.length_replicate]
  rw [if_pos (by decide)]
theorem test_cause_codes : (FatalReason.unknownOpcode .cb 0 0).code = 1 ∧ (LoadError.imageRefused none).code = 3 ∧
    (DiagEvent.romWrite 0).code = 16 := by decide

/-! ## Single steps -/

/-- V3: ADD A,B. -/
theorem test_v3_add_a_b : ends (start 0xD000 [0x80] [(.a, 0x0F), (.b, 0x01), (.f, 0x00)] [])
    0xD001 1 0xFFFE [(.a, 0x10), (.f, 0x20)] []
    [] (.running) = true := by decide

/-- V6: ADD A,(HL). -/
theorem test_v6_add_a_at_hl : ends (start 0xD000 [0x86] [(.a, 0x01), (.h, 0xC2), (.l, 0x00), (.f, 0x00)] [(0xC200, 0xFE)])
    0xD001 2 0xFFFE [(.a, 0xFF), (.f, 0x00)] []
    [] (.running) = true := by decide

/-- V7: ADD A,d8. -/
theorem test_v7_add_a_d8 : ends (start 0xD000 [0xC6, 0x10] [(.a, 0xF0), (.f, 0x00)] [])
    0xD002 2 0xFFFE [(.a, 0x00), (.f, 0x90)] []
    [] (.running) = true := by decide

/-- V9: ADC A,C. -/
theorem test_v9_adc_a_c : ends (start 0xD000 [0x89] [(.a, 0x0E), (.c, 0x01), (.f, 0x10)] [])
    0xD001 1 0xFFFE [(.a, 0x10), (.f, 0x20)] []
    [] (.running) = true := by decide

/-- V12: SUB A,B. -/
theorem test_v12_sub_a_b : ends (start 0xD000 [0x90] [(.a, 0x00), (.b, 0x01), (.f, 0x00)] [])
    0xD001 1 0xFFFE [(.a, 0xFF), (.f, 0x70)] []
    [] (.running) = true := by decide

/-- V17: SBC A,B. -/
theorem test_v17_sbc_a_b : ends (start 0xD000 [0x98] [(.a, 0x10), (.b, 0x0F), (.f, 0x10)] [])
    0xD001 1 0xFFFE [(.a, 0x00), (.f, 0xE0)] []
    [] (.running) = true := by decide

/-- V18: SBC A,d8. -/
theorem test_v18_sbc_a_d8 : ends (start 0xD000 [0xDE, 0xFF] [(.a, 0xFF), (.f, 0x10)] [])
    0xD002 2 0xFFFE [(.f, 0x70)] []
    [] (.running) = true := by decide

/-- V19: AND A,B. -/
theorem test_v19_and_a_b : ends (start 0xD000 [0xA0] [(.a, 0xF0), (.b, 0x0F), (.f, 0x50)] [])
    0xD001 1 0xFFFE [(.a, 0x00), (.f, 0xA0)] []
    [] (.running) = true := by decide

/-- V21: XOR A,A. -/
theorem test_v21_xor_a_a : ends (start 0xD000 [0xAF] [(.a, 0x3C), (.f, 0x70)] [])
    0xD001 1 0xFFFE [(.a, 0x00), (.f, 0x80)] []
    [] (.running) = true := by decide

/-- V23: OR A,B. -/
theorem test_v23_or_a_b : ends (start 0xD000 [0xB0] [(.a, 0x00), (.b, 0x00), (.f, 0x70)] [])
    0xD001 1 0xFFFE [(.f, 0x80)] []
    [] (.running) = true := by decide

/-- V26: CP A,B. -/
theorem test_v26_cp_a_b : ends (start 0xD000 [0xB8] [(.a, 0x41), (.b, 0x42), (.f, 0x00)] [])
    0xD001 1 0xFFFE [(.f, 0x70)] []
    [] (.running) = true := by decide

/-- V29: INC B. -/
theorem test_v29_inc_b : ends { start 0xD000 [0x04] [(.b, 0xFF), (.f, 0x00)] [] with build := { Build.default with incDecCarry := .compute } }
    0xD001 1 0xFFFE [(.f, 0xB0), (.b, 0x00)] []
    [] (.running) = true := by decide

/-- V30: INC B. -/
theorem test_v30_inc_b : ends (start 0xD000 [0x04] [(.b, 0x0F), (.f, 0x10)] [])
    0xD001 1 0xFFFE [(.f, 0x30), (.b, 0x10)] []
    [] (.running) = true := by decide

/-- V31: INC (HL). -/
theorem test_v31_inc_at_hl : ends (start 0xD000 [0x34] [(.h, 0x40), (.l, 0x00), (.f, 0x00)] [])
    0xD001 3 0xFFFE [(.f, 0x00)] []
    [.romWrite 0x4000] (.running) = true := by decide

/-- V32: INC (HL). -/
theorem test_v32_inc_at_hl : ends (start 0xD000 [0x34] [(.h, 0xC2), (.l, 0x00), (.f, 0x00)] [(0xC200, 0x7F)])
    0xD001 3 0xFFFE [(.f, 0x20)] [(0xC200, 0x80)]
    [] (.running) = true := by decide

/-- V33: DEC C. -/
theorem test_v33_dec_c : ends (start 0xD000 [0x0D] [(.c, 0x00), (.f, 0x00)] [])
    0xD001 1 0xFFFE [(.f, 0x60), (.c, 0xFF)] []
    [] (.running) = true := by decide

/-- V36: DEC (HL). -/
theorem test_v36_dec_at_hl : ends (start 0xD000 [0x35] [(.h, 0xC2), (.l, 0x00), (.f, 0x00)] [(0xC200, 0x10)])
    0xD001 3 0xFFFE [(.f, 0x60)] [(0xC200, 0x0F)]
    [] (.running) = true := by decide

/-- V40: DAA. -/
theorem test_v40_daa : ends (start 0xD000 [0x27] [(.a, 0x00), (.f, 0x30)] [])
    0xD001 1 0xFFFE [(.a, 0x66), (.f, 0x10)] []
    [] (.running) = true := by decide

/-- V41: CPL. -/
theorem test_v41_cpl : ends (start 0xD000 [0x2F] [(.a, 0x35), (.f, 0x90)] [])
    0xD001 1 0xFFFE [(.a, 0xCA), (.f, 0xF0)] []
    [] (.running) = true := by decide

/-- V42: SCF. -/
theorem test_v42_scf : ends (start 0xD000 [0x37] [(.f, 0xE0)] [])
    0xD001 1 0xFFFE [(.f, 0x90)] []
    [] (.running) = true := by decide

/-- V43: CCF. -/
theorem test_v43_ccf : ends (start 0xD000 [0x3F] [(.f, 0x70)] [])
    0xD001 1 0xFFFE [(.f, 0x00)] []
    [] (.running) = true := by decide

/-- V45: LD B,E. -/
theorem test_v45_ld_b_e : ends (start 0xD000 [0x43] [(.e, 0x99)] [])
    0xD001 1 0xFFFE [(.f, 0xB0), (.b, 0x99)] []
    [] (.running) = true := by decide

/-- V47: LD C,(HL). -/
theorem test_v47_ld_c_at_hl : ends (start 0xD000 [0x4E] [(.h, 0xC2), (.l, 0x00)] [(0xC200, 0x5A)])
    0xD001 2 0xFFFE [(.f, 0xB0), (.c, 0x5A)] []
    [] (.running) = true := by decide

/-- V49: LD (HL),D. -/
theorem test_v49_ld_at_hl_d : ends (start 0xD000 [0x72] [(.h, 0x7F), (.l, 0xFF), (.d, 0x77)] [])
    0xD001 2 0xFFFE [(.f, 0xB0)] []
    [.romWrite 0x7FFF] (.running) = true := by decide

/-- V50: LD E,d8. -/
theorem test_v50_ld_e_d8 : ends (start 0xD000 [0x1E, 0x80] [] [])
    0xD002 2 0xFFFE [(.f, 0xB0), (.e, 0x80)] []
    [] (.running) = true := by decide

/-- V51: LD (HL),d8. -/
theorem test_v51_ld_at_hl_d8 : ends (start 0xD000 [0x36, 0x42] [(.h, 0xC2), (.l, 0x00)] [])
    0xD002 3 0xFFFE [(.f, 0xB0)] [(0xC200, 0x42)]
    [] (.running) = true := by decide

/-- V52: LD A,(BC). -/
theorem test_v52_ld_a_at_bc : ends (start 0xD000 [0x0A] [(.b, 0xC0), (.c, 0x10)] [(0xC010, 0x3C)])
    0xD001 2 0xFFFE [(.a, 0x3C), (.f, 0xB0)] []
    [] (.running) = true := by decide

/-- V53: LD (DE),A. -/
theorem test_v53_ld_at_de_a : ends (start 0xD000 [0x12] [(.d, 0xC0), (.e, 0x20), (.a, 0x9F)] [])
    0xD001 2 0xFFFE [(.f, 0xB0)] [(0xC020, 0x9F)]
    [] (.running) = true := by decide

/-- V54: LD (HL+),A. -/
theorem test_v54_ld_at_hlinc_a : ends (start 0xD000 [0x22] [(.h, 0xFF), (.l, 0xFF), (.a, 0x11)] [])
    0xD001 2 0xFFFE [(.f, 0xB0), (.h, 0x00), (.l, 0x00)] [(0xFFFF, 0x11)]
    [] (.running) = true := by decide

/-- V56: LD (HL-),A. -/
theorem test_v56_ld_at_hldec_a : ends (start 0xD000 [0x32] [(.h, 0x80), (.l, 0x00), (.a, 0x22)] [])
    0xD001 2 0xFFFE [(.f, 0xB0), (.h, 0x7F), (.l, 0xFF)] [(0x8000, 0x22)]
    [] (.running) = true := by decide

/-- V55: LD A,(HL+). -/
theorem test_v55_ld_a_at_hlinc : ends (start 0xD000 [0x2A] [(.h, 0xC0), (.l, 0xFF)] [(0xC0FF, 0x66)])
    0xD001 2 0xFFFE [(.a, 0x66), (.f, 0xB0), (.h, 0xC1), (.l, 0x00)] []
    [] (.running) = true := by decide

/-- V57: LD A,(HL-). -/
theorem test_v57_ld_a_at_hldec : ends (start 0xD000 [0x3A] [(.h, 0x00), (.l, 0x00)] [])
    0xD001 2 0xFFFE [(.a, 0x00), (.f, 0xB0), (.h, 0xFF), (.l, 0xFF)] []
    [] (.running) = true := by decide

/-- V58: LD (a16),A. -/
theorem test_v58_ld_at_a16_a : ends (start 0xD000 [0xEA, 0x00, 0xC3] [(.a, 0x5C)] [])
    0xD003 4 0xFFFE [(.f, 0xB0)] [(0xC300, 0x5C)]
    [] (.running) = true := by decide

/-- V59: LD A,(a16). -/
theorem test_v59_ld_a_at_a16 : ends (start 0xD000 [0xFA, 0x34, 0x12] [] [])
    0xD003 4 0xFFFE [(.a, 0x00), (.f, 0xB0)] []
    [] (.running) = true := by decide

/-- V60: LDH (a8),A. -/
theorem test_v60_ldh_at_a8_a : ends (start 0xD000 [0xE0, 0x80] [(.a, 0x01)] [])
    0xD002 3 0xFFFE [(.f, 0xB0)] [(0xFF80, 0x01)]
    [] (.running) = true := by decide

/-- V61: LDH A,(a8). -/
theorem test_v61_ldh_a_at_a8 : ends (start 0xD000 [0xF0, 0xFF] [] [(0xFFFF, 0xA5)])
    0xD002 3 0xFFFE [(.a, 0xA5), (.f, 0xB0)] []
    [] (.running) = true := by decide

/-- V62: LD (C),A. -/
theorem test_v62_ld_at_c_a : ends (start 0xD000 [0xE2] [(.c, 0x10), (.a, 0xEE)] [])
    0xD001 2 0xFFFE [(.f, 0xB0)] [(0xFF10, 0xEE)]
    [] (.running) = true := by decide

/-- V63: LD A,(C). -/
theorem test_v63_ld_a_at_c : ends (start 0xD000 [0xF2] [(.c, 0x81)] [(0xFF81, 0x4D)])
    0xD001 2 0xFFFE [(.a, 0x4D), (.f, 0xB0)] []
    [] (.running) = true := by decide

/-- V64: LD SP,d16. -/
theorem test_v64_ld_sp_d16 : ends (start 0xD000 [0x31, 0x00, 0xE0] [] [])
    0xD003 3 0xE000 [(.f, 0xB0)] []
    [] (.running) = true := by decide

/-- V66: LD (a16),SP. -/
theorem test_v66_ld_at_a16_sp : ends { start 0xD000 [0x08, 0x00, 0xC4] [] [] with sp := 0xABCD }
    0xD003 5 0xABCD [(.f, 0xB0)] [(0xC400, 0xCD), (0xC401, 0xAB)]
    [] (.running) = true := by decide

/-- V67: LD (a16),SP. -/
theorem test_v67_ld_at_a16_sp : ends { start 0xD000 [0x08, 0xFF, 0xFF] [] [] with sp := 0xABCD }
    0xD003 5 0xABCD [(.f, 0xB0)] [(0xFFFF, 0xCD)]
    [.romWrite 0x0000] (.running) = true := by decide

/-- V68: LD SP,HL. -/
theorem test_v68_ld_sp_hl : ends (start 0xD000 [0xF9] [(.h, 0x12), (.l, 0x34)] [])
    0xD001 2 0x1234 [(.f, 0xB0)] []
    [] (.running) = true := by decide

/-- V69: LD HL,SP+e8. -/
theorem test_v69_ld_hl_spince8 : ends { start 0xD000 [0xF8, 0xFF] [(.f, 0xF0)] [] with sp := 0x0000 }
    0xD002 3 0x0000 [(.f, 0x00), (.h, 0xFF), (.l, 0xFF)] []
    [] (.running) = true := by decide

/-- V72: PUSH BC. -/
theorem test_v72_push_bc : ends { start 0xD000 [0xC5] [(.b, 0x12), (.c, 0x34)] [] with sp := 0x8001 }
    0xD001 4 0x7FFF [(.f, 0xB0)] []
    [.romWrite 0x7FFF] (.running) = true := by decide

/-- V73: PUSH AF. -/
theorem test_v73_push_af : ends { start 0xD000 [0xF5] [] [] with sp := 0x0001 }
    0xD001 4 0xFFFF [(.f, 0xB0)] [(0xFFFF, 0xB0)]
    [.romWrite 0x0000] (.running) = true := by decide

/-- V74: POP DE. -/
theorem test_v74_pop_de : ends { start 0xD000 [0xD1] [] [(0xCFFE, 0x34), (0xCFFF, 0x12)] with sp := 0xCFFE }
    0xD001 3 0xD000 [(.f, 0xB0), (.d, 0x12), (.e, 0x34)] []
    [] (.running) = true := by decide

/-- V75: POP AF. -/
theorem test_v75_pop_af : ends { start 0xD000 [0xF1] [] [(0xCFFE, 0xFF), (0xCFFF, 0x00)] with sp := 0xCFFE }
    0xD001 3 0xD000 [(.a, 0x00), (.f, 0xF0)] []
    [] (.running) = true := by decide

/-- V76: POP HL. -/
theorem test_v76_pop_hl : ends { start 0xD000 [0xE1] [] [(0xFFFF, 0x78)] with sp := 0xFFFF }
    0xD001 3 0x0001 [(.f, 0xB0), (.h, 0x00), (.l, 0x78)] []
    [] (.running) = true := by decide

/-- V80: JR e8. -/
theorem test_v80_jr_e8 : ends (start 0xFFFE [0x18, 0x01] [] [])
    0x0001 3 0xFFFE [(.f, 0xB0)] []
    [] (.running) = true := by decide

/-- V82: JR NZ,e8. -/
theorem test_v82_jr_nz_e8 : ends (start 0xD000 [0x20, 0x05] [(.f, 0x80)] [])
    0xD002 2 0xFFFE [(.f, 0x80)] []
    [] (.running) = true := by decide

/-- V83: JR C,e8. -/
theorem test_v83_jr_c_e8 : ends (start 0xD000 [0x38, 0xFC] [(.f, 0x10)] [])
    0xCFFE 3 0xFFFE [(.f, 0x10)] []
    [] (.running) = true := by decide

/-- V84: JP a16. -/
theorem test_v84_jp_a16 : ends (start 0xD000 [0xC3, 0x50, 0x01] [] [])
    0x0150 4 0xFFFE [(.f, 0xB0)] []
    [] (.running) = true := by decide

/-- V85: JP Z,a16. -/
theorem test_v85_jp_z_a16 : ends (start 0xD000 [0xCA, 0x50, 0x01] [(.f, 0x80)] [])
    0x0150 4 0xFFFE [(.f, 0x80)] []
    [] (.running) = true := by decide

/-- V86: JP NC,a16. -/
theorem test_v86_jp_nc_a16 : ends (start 0xD000 [0xD2, 0x50, 0x01] [(.f, 0x10)] [])
    0xD003 3 0xFFFE [(.f, 0x10)] []
    [] (.running) = true := by decide

/-- V87: JP HL. -/
theorem test_v87_jp_hl : ends (start 0xD000 [0xE9] [(.h, 0x00), (.l, 0x00)] [])
    0x0000 1 0xFFFE [(.f, 0xB0)] []
    [] (.running) = true := by decide

/-- V88: CALL a16. -/
theorem test_v88_call_a16 : ends { start 0xD000 [0xCD, 0x00, 0x02] [] [] with sp := 0xD100 }
    0x0200 6 0xD0FE [(.f, 0xB0)] [(0xD0FE, 0x03), (0xD0FF, 0xD0)]
    [] (.running) = true := by decide

/-- V89: CALL a16. -/
theorem test_v89_call_a16 : ends { start 0xD000 [0xCD, 0x00, 0x02] [] [] with sp := 0x8000 }
    0x0200 6 0x7FFE [(.f, 0xB0)] []
    [.romWrite 0x7FFE] (.running) = true := by decide

/-- V90: CALL NZ,a16. -/
theorem test_v90_call_nz_a16 : ends { start 0xD000 [0xC4, 0x00, 0x02] [(.f, 0x80)] [] with sp := 0xD100 }
    0xD003 3 0xD100 [(.f, 0x80)] []
    [] (.running) = true := by decide

/-- V91: CALL C,a16. -/
theorem test_v91_call_c_a16 : ends { start 0xD000 [0xDC, 0x00, 0x02] [(.f, 0x10)] [] with sp := 0xD100 }
    0x0200 6 0xD0FE [(.f, 0x10)] [(0xD0FE, 0x03), (0xD0FF, 0xD0)]
    [] (.running) = true := by decide

/-- V92: RET. -/
theorem test_v92_ret : ends { start 0xD000 [0xC9] [] [(0xD0FE, 0x03), (0xD0FF, 0x01)] with sp := 0xD0FE }
    0x0103 4 0xD100 [(.f, 0xB0)] []
    [] (.running) = true := by decide

/-- V93: RET Z. -/
theorem test_v93_ret_z : ends { start 0xD000 [0xC8] [(.f, 0x00)] [(0xD0FE, 0x03), (0xD0FF, 0x01)] with sp := 0xD0FE }
    0xD001 2 0xD0FE [(.f, 0x00)] []
    [] (.running) = true := by decide

/-- V94: RET NC. -/
theorem test_v94_ret_nc : ends { start 0xD000 [0xD0] [(.f, 0x00)] [(0xD0FE, 0x03), (0xD0FF, 0x01)] with sp := 0xD0FE }
    0x0103 5 0xD100 [(.f, 0x00)] []
    [] (.running) = true := by decide

/-- V96: RST 00H. -/
theorem test_v96_rst_00h : ends { start 0xC000 [0xC7] [] [] with sp := 0xD100 }
    0x0000 4 0xD0FE [(.f, 0xB0)] [(0xD0FE, 0x01), (0xD0FF, 0xC0)]
    [] (.running) = true := by decide

/-- V97: INC BC. -/
theorem test_v97_inc_bc : ends (start 0xD000 [0x03] [(.b, 0xFF), (.c, 0xFF), (.f, 0x00)] [])
    0xD001 2 0xFFFE [(.f, 0x00), (.b, 0x00), (.c, 0x00)] []
    [] (.running) = true := by decide

/-- V98: INC SP. -/
theorem test_v98_inc_sp : ends { start 0xD000 [0x33] [] [] with sp := 0x00FF }
    0xD001 2 0x0100 [(.f, 0xB0)] []
    [] (.running) = true := by decide

/-- V99: DEC DE. -/
theorem test_v99_dec_de : ends (start 0xD000 [0x1B] [(.d, 0x00), (.e, 0x00), (.f, 0x00)] [])
    0xD001 2 0xFFFE [(.f, 0x00), (.d, 0xFF), (.e, 0xFF)] []
    [] (.running) = true := by decide

/-- V100: ADD HL,BC. -/
theorem test_v100_add_hl_bc : ends (start 0xD000 [0x09] [(.h, 0x0F), (.l, 0xFF), (.b, 0x00), (.c, 0x01), (.f, 0x80)] [])
    0xD001 2 0xFFFE [(.f, 0xA0), (.h, 0x10), (.l, 0x00)] []
    [] (.running) = true := by decide

/-- V102: ADD HL,HL. -/
theorem test_v102_add_hl_hl : ends (start 0xD000 [0x29] [(.h, 0x80), (.l, 0x00), (.f, 0x00)] [])
    0xD001 2 0xFFFE [(.f, 0x10), (.h, 0x00)] []
    [] (.running) = true := by decide

/-- V103: ADD HL,SP. -/
theorem test_v103_add_hl_sp : ends { start 0xD000 [0x39] [(.h, 0x00), (.l, 0xFF), (.f, 0x00)] [] with sp := 0x0001 }
    0xD001 2 0x0001 [(.f, 0x00), (.h, 0x01), (.l, 0x00)] []
    [] (.running) = true := by decide

/-- V105: ADD SP,e8. -/
theorem test_v105_add_sp_e8 : ends { start 0xD000 [0xE8, 0xFF] [(.f, 0x00)] [] with sp := 0x0001 }
    0xD002 4 0x0000 [(.f, 0x30)] []
    [] (.running) = true := by decide

/-- V107: ADD SP,e8. -/
theorem test_v107_add_sp_e8 : ends { start 0xD000 [0xE8, 0x80] [(.f, 0x00)] [] with sp := 0xD000 }
    0xD002 4 0xCF80 [(.f, 0x00)] []
    [] (.running) = true := by decide

/-- V109: RLCA. -/
theorem test_v109_rlca : ends (start 0xD000 [0x07] [(.a, 0x00), (.f, 0x80)] [])
    0xD001 1 0xFFFE [(.f, 0x00)] []
    [] (.running) = true := by decide

/-- V110: RRCA. -/
theorem test_v110_rrca : ends (start 0xD000 [0x0F] [(.a, 0x01), (.f, 0x00)] [])
    0xD001 1 0xFFFE [(.a, 0x80), (.f, 0x10)] []
    [] (.running) = true := by decide

/-- V112: RLA. -/
theorem test_v112_rla : ends (start 0xD000 [0x17] [(.a, 0x00), (.f, 0x10)] [])
    0xD001 1 0xFFFE [(.a, 0x01), (.f, 0x00)] []
    [] (.running) = true := by decide

/-- V113: RRA. -/
theorem test_v113_rra : ends (start 0xD000 [0x1F] [(.a, 0x01), (.f, 0x00)] [])
    0xD001 1 0xFFFE [(.a, 0x00), (.f, 0x10)] []
    [] (.running) = true := by decide

/-- V114: RLC B. -/
theorem test_v114_rlc_b : ends (start 0xD000 [0xCB, 0x00] [(.b, 0x00), (.f, 0x10)] [])
    0xD002 2 0xFFFE [(.f, 0x80)] []
    [] (.running) = true := by decide

/-- V115: RLC (HL). -/
theorem test_v115_rlc_at_hl : ends (start 0xD000 [0xCB, 0x06] [(.h, 0x00), (.l, 0x00), (.f, 0x00)] [])
    0xD002 4 0xFFFE [(.f, 0x80)] []
    [.romWrite 0x0000] (.running) = true := by decide

/-- V116: RL C. -/
theorem test_v116_rl_c : ends (start 0xD000 [0xCB, 0x11] [(.c, 0x80), (.f, 0x00)] [])
    0xD002 2 0xFFFE [(.f, 0x90), (.c, 0x00)] []
    [] (.running) = true := by decide

/-- V117: RR D. -/
theorem test_v117_rr_d : ends (start 0xD000 [0xCB, 0x1A] [(.d, 0x01), (.f, 0x10)] [])
    0xD002 2 0xFFFE [(.f, 0x10), (.d, 0x80)] []
    [] (.running) = true := by decide

/-- V118: SLA E. -/
theorem test_v118_sla_e : ends (start 0xD000 [0xCB, 0x23] [(.e, 0xC0), (.f, 0x00)] [])
    0xD002 2 0xFFFE [(.f, 0x10), (.e, 0x80)] []
    [] (.running) = true := by decide

/-- V119: SRA H. -/
theorem test_v119_sra_h : ends (start 0xD000 [0xCB, 0x2C] [(.h, 0x81), (.f, 0x00)] [])
    0xD002 2 0xFFFE [(.f, 0x10), (.h, 0xC0)] []
    [] (.running) = true := by decide

/-- V120: SWAP L. -/
theorem test_v120_swap_l : ends (start 0xD000 [0xCB, 0x35] [(.l, 0xA5), (.f, 0x70)] [])
    0xD002 2 0xFFFE [(.f, 0x00), (.l, 0x5A)] []
    [] (.running) = true := by decide

/-- V121: SWAP (HL). -/
theorem test_v121_swap_at_hl : ends (start 0xD000 [0xCB, 0x36] [(.h, 0xC2), (.l, 0x00), (.f, 0x00)] [(0xC200, 0x00)])
    0xD002 4 0xFFFE [(.f, 0x80)] []
    [] (.running) = true := by decide

/-- V122: SRL A. -/
theorem test_v122_srl_a : ends (start 0xD000 [0xCB, 0x3F] [(.a, 0x80), (.f, 0x00)] [])
    0xD002 2 0xFFFE [(.a, 0x40), (.f, 0x00)] []
    [] (.running) = true := by decide

/-- V123: BIT 0,A. -/
theorem test_v123_bit_0_a : ends (start 0xD000 [0xCB, 0x47] [(.a, 0x01), (.f, 0xD0)] [])
    0xD002 2 0xFFFE [(.f, 0x30)] []
    [] (.running) = true := by decide

/-- V124: BIT 7,H. -/
theorem test_v124_bit_7_h : ends (start 0xD000 [0xCB, 0x7C] [(.h, 0x7F), (.f, 0x00)] [])
    0xD002 2 0xFFFE [(.f, 0xA0)] []
    [] (.running) = true := by decide

/-- V125: BIT 3,(HL). -/
theorem test_v125_bit_3_at_hl : ends (start 0xD000 [0xCB, 0x5E] [(.h, 0x00), (.l, 0x00), (.f, 0x10)] [])
    0xD002 3 0xFFFE [(.f, 0xB0)] []
    [] (.running) = true := by decide

/-- V126: RES 0,B. -/
theorem test_v126_res_0_b : ends (start 0xD000 [0xCB, 0x80] [(.b, 0xFF), (.f, 0xF0)] [])
    0xD002 2 0xFFFE [(.f, 0xF0), (.b, 0xFE)] []
    [] (.running) = true := by decide

/-- V127: RES 7,(HL). -/
theorem test_v127_res_7_at_hl : ends (start 0xD000 [0xCB, 0xBE] [(.h, 0x20), (.l, 0x00)] [])
    0xD002 4 0xFFFE [(.f, 0xB0)] []
    [.romWrite 0x2000] (.running) = true := by decide

/-- V128: SET 7,L. -/
theorem test_v128_set_7_l : ends (start 0xD000 [0xCB, 0xFD] [(.l, 0x00)] [])
    0xD002 2 0xFFFE [(.f, 0xB0), (.l, 0x80)] []
    [] (.running) = true := by decide

/-- V129: SET 0,(HL). -/
theorem test_v129_set_0_at_hl : ends (start 0xD000 [0xCB, 0xC6] [(.h, 0xFF), (.l, 0xFF)] [(0xFFFF, 0xFE)])
    0xD002 4 0xFFFE [(.f, 0xB0)] [(0xFFFF, 0xFF)]
    [] (.running) = true := by decide

/-- V131: NOP. -/
theorem test_v131_nop : ends (start 0xFFFF [0x00] [] [])
    0x0000 1 0xFFFE [(.f, 0xB0)] []
    [] (.running) = true := by decide

/-- V134: STOP (gap). -/
theorem test_v134_stop_at_gap : ends { start 0xD000 [0x10, 0x00] [] [] with build := { Build.default with unknownPolicy := .permissive, unknownPcAdvance := 1 } }
    0xD001 0 0xFFFE [(.f, 0xB0)] []
    [.unknownOpcode .primary 0x10 0xD000] (.running) = true := by decide

/-- V137: RETI (gap). -/
theorem test_v137_reti_at_gap : ends { start 0xD000 [0xD9] [] [] with sp := 0xD0FE }
    0xD000 0 0xD0FE [(.f, 0xB0)] []
    [.unknownOpcode .primary 0xD9 0xD000] (.fatal (.unknownOpcode .primary 0xD9 0xD000)) = true := by decide

/-- V138: illegal 0xFC. -/
theorem test_v138_illegal_0xfc : ends (start 0xD000 [0xFC] [] [])
    0xD000 0 0xFFFE [(.f, 0xB0)] []
    [.unknownOpcode .primary 0xFC 0xD000] (.fatal (.unknownOpcode .primary 0xFC 0xD000)) = true := by decide

/-- V140: CB 0x37 (DOC_NAMED). -/
theorem test_v140_cb_0x37_at_doc_named : ends { start 0xD000 [0xCB, 0x37] [(.a, 0x12)] [] with build := { Build.default with populated := .docNamed } }
    0xD000 0 0xFFFE [(.f, 0xB0)] []
    [.unknownOpcode .cb 0x37 0xD000] (.fatal (.unknownOpcode .cb 0x37 0xD000)) = true := by decide

/-- V142: JR NZ,e8 (DOC_NAMED). -/
theorem test_v142_jr_nz_e8_at_doc_named : ends { start 0xD000 [0x20, 0x00] [] [] with build := { Build.default with populated := .docNamed } }
    0xD002 2 0xFFFE [(.f, 0xB0)] []
    [] (.running) = true := by decide

/-! ## Witnesses: for each statement with hypotheses, states and operands that meet them -/

theorem witness_lists_have_members : copyForms.length = 49 ∧ shiftRegForms.length = 56 ∧ shiftMemForms.length = 8 ∧
    bitRegForms.length = 56 ∧ bitMemForms.length = 8 ∧ resRegForms.length = 56 ∧ resMemForms.length = 8 ∧
    setRegForms.length = 56 ∧ setMemForms.length = 8 ∧ unknownForms.length = 16 ∧
    (aluForms .addAB .addAC .addAD .addAE .addAH .addAL .addAA .addAAtHl (.addAD8 0) State.reset 0).length = 9 ∧
    (fieldRows 0 0).length = 17 ∧ (∀ f ∈ fieldRows 0 0, 4 ≤ f.instrs.length) ∧ (fixedCells 0 0).length = 24 := by decide

theorem witness_PairAndHalvesAgree : Reg8.f ≠ Reg8.a ∧ Reg16.sp ≠ Reg16.af := by decide
theorem witness_FlagsAreTheTopBitsOfF : Flag.c ≠ Flag.z ∧ Reg8.a ≠ Reg8.f ∧ 3 < 4 := by decide

/-- The clauses of a byte store, on both sides of the boundary. -/
theorem witness_ByteWriteIsSeenOrRefused :
    (State.reset.writeByte 0x8000 0x5A).readByte 0x8000 = 0x5A ∧
    (State.reset.writeByte 0x7FFF 0x5A).readByte 0x7FFF = 0x00 ∧
    (State.reset.writeByte 0x7FFF 0x5A).diag = [.romWrite 0x7FFF] := by decide

/-- The clauses of a word store: refused whole, stored whole, and the second byte refused after 0xFFFF. -/
theorem witness_WordsAreLittleEndian :
    (State.reset.writeWord 0x7FFF 0x1234).diag = [.romWrite 0x7FFF] ∧
    (State.reset.writeWord 0x7FFF 0x1234).readByte 0x8000 = 0x00 ∧
    (State.reset.writeWord 0x8000 0x1234).readWord 0x8000 = 0x1234 ∧
    (State.reset.writeWord 0x8000 0x1234).readByte 0x8000 = 0x34 ∧
    (State.reset.writeWord 0xFFFF 0x1234).readByte 0xFFFF = 0x34 ∧
    (State.reset.writeWord 0xFFFF 0x1234).diag = [.romWrite 0x0000] := by decide

theorem witness_ImageIsLoadedOrRefused : (List.replicate 0x8001 (0x00 : Byte)).length > 0x8000 ∧
    (List.replicate 0x8000 (0x00 : Byte)).length ≤ 0x8000 := by
  exact ⟨by rw [List.length_replicate]; decide, by rw [List.length_replicate]⟩

/-- A permissive build. -/
def permissive : Build := { Build.default with unknownPolicy := .permissive }

theorem witness_GapAndIllegalBytesAreUnknown :
    (.halt, 0x76) ∈ unknownForms ∧ State.reset.build.unknownPolicy = .strict ∧
    ({ State.reset with build := permissive, unknownCount := 100 }).build.unknownPolicy = .permissive ∧
    ({ State.reset with build := permissive, unknownCount := 100 }).unknownCount ≥ 100 ∧
    ({ State.reset with build := permissive, unknownCount := 99 }).unknownCount < 100 := by decide

/-- A branch taken and one not taken. -/
theorem witness_conditions_both_ways : holds State.reset .z = true ∧ holds State.reset .nz = false ∧
    holds State.reset .c = true ∧ holds State.reset .nc = false := by decide

theorem witness_PrefixRunsTheSecondaryEntry :
    populated State.reset.build.populated (.cb, State.reset.readByte (State.reset.pc + 1)) = true ∧
    populated ({ State.reset with build := { Build.default with populated := .docNamed } }).build.populated (.cb, 0x37) =
      false := by decide

/-- SET 1,E stands at `pc`: a secondary entry. -/
def withSecondary : State := State.reset.placeBytes 0x0100 [0xCB, 0xCB]

/-- HALT stands at `pc`: an entry no build populates. -/
def withHalt : State := State.reset.placeBytes 0x0100 [0x76]

theorem witness_StepRunsTheDecodedInstruction :
    withSecondary.status = .running ∧ Instr.set1E.wellFormed = true ∧
    decode [withSecondary.readByte withSecondary.pc, withSecondary.readByte (withSecondary.pc + 1),
      withSecondary.readByte (withSecondary.pc + 2)] = .ok (.set1E, [0x00]) ∧
    populated withSecondary.build.populated (entryAt withSecondary) = true ∧
    decode [withHalt.readByte withHalt.pc, withHalt.readByte (withHalt.pc + 1), withHalt.readByte (withHalt.pc + 2)] =
      .ok (.halt, [0x00, 0x00]) ∧
    populated withHalt.build.populated (entryAt withHalt) = false := by decide

theorem witness_OnlyRunningStatesStep :
    State.reset.status = .running ∧ ({ State.reset with status := .quit }).status ≠ .running := by decide

theorem witness_PopulatedHandlersKeepRunning :
    withSecondary.status = .running ∧ populated withSecondary.build.populated (entryAt withSecondary) = true := by decide

theorem witness_FatalStopIsPrecise :
    withHalt.status = .running ∧ populated withHalt.build.populated (entryAt withHalt) = false ∧
    withHalt.build.unknownPolicy = .strict ∧
    ({ withHalt with build := permissive, unknownCount := 100 }).build.unknownPolicy = .permissive ∧
    populated permissive.populated (entryAt withHalt) = false := by decide

theorem witness_PermissiveRunEndsAtTheBound :
    ({ withHalt with build := permissive }).status = .running ∧ permissive.unknownPolicy = .permissive ∧
    permissive.unknownPcAdvance = 0 ∧ ({ withHalt with build := permissive }).unknownCount = 0 ∧
    populated permissive.populated (entryAt { withHalt with build := permissive }) = false := by decide

theorem witness_EveryStepKeepsInvariant :
    State.reset.mem.wf = true ∧ State.reset.get8 .f &&& 0x0F = 0 ∧ State.reset.unknownCount ≤ 101 ∧
    (match step State.reset with | .next t => decide (t.pc = 0x0101) | _ => false) = true := by decide

/-- A step to a next state from a populated and from an unpopulated entry, with an address below the boundary and one
that the instruction does not store to. -/
theorem witness_whole_machine_rules :
    (∃ t, step withSecondary = .next t) ∧ (∃ t, step withHalt = .next t) ∧ (0x7FFF : Word).toNat < 0x8000 ∧
    (0x8000 : Word) ∉ storesOf withSecondary.fetchInstr withSecondary := by
  refine ⟨⟨_, rfl⟩, ⟨_, rfl⟩, by decide, by decide⟩

/-- An instruction that stores, and its address. -/
theorem witness_storesOf : storesOf .pushBc State.reset = [0xFFFC, 0xFFFD] ∧
    storesOf (.ldhAtA8A 0x80) State.reset = [0xFF80] := by decide

theorem witness_RunLoopEndsWithoutFault :
    State.reset.status ≠ .quit ∧ true ∉ [false, false] ∧ State.reset.status = .running ∧
    ({ State.reset with status := .quit }).status ≠ .running := by decide

theorem witness_DecodeOfEncode : (Instr.jpA16 0x0150).wellFormed = true := by decide
theorem witness_EncodeOfDecode : decode [0xC3, 0x50, 0x01, 0xFF] = .ok (.jpA16 0x0150, [0xFF]) := by decide

/-- The first and the last value of a field of each kind: `r8`, `rr`, `cc` and the restart number. -/
theorem witness_OperandFieldsDecode_rows :
    decodeBytes (BitVec.ofNat 8 (0x04 + 8 * 0)) 0 0 = .incB ∧ decodeBytes (BitVec.ofNat 8 (0x04 + 8 * 7)) 0 0 = .incA ∧
    decodeBytes (BitVec.ofNat 8 (0xC5 + 16 * 0)) 0 0 = .pushBc ∧ decodeBytes (BitVec.ofNat 8 (0xC5 + 16 * 3)) 0 0 = .pushAf ∧
    decodeBytes (BitVec.ofNat 8 (0xC0 + 8 * 0)) 0 0 = .retNz ∧ decodeBytes (BitVec.ofNat 8 (0xC0 + 8 * 3)) 0 0 = .retC ∧
    decodeBytes (BitVec.ofNat 8 (0xC7 + 8 * 7)) 0 0 = .rst38 := by decide

/-- Bytes in each clause of the field statement, at the ends of the blocks. -/
theorem witness_OperandFieldsDecode :
    (0x40 : Byte).toNat / 64 = 1 ∧ reg8Of ((0x40 : Byte).toNat / 8 % 8) = some .b ∧ reg8Of ((0x40 : Byte).toNat % 8) = some .b ∧
    (0x7E : Byte).toNat / 64 = 1 ∧ reg8Of ((0x7E : Byte).toNat / 8 % 8) = some .a ∧ (0x7E : Byte).toNat % 8 = 6 ∧
    (0x77 : Byte).toNat / 8 % 8 = 6 ∧ reg8Of ((0x77 : Byte).toNat % 8) = some .a ∧
    (0xBF : Byte).toNat / 64 = 2 ∧ reg8Of ((0xBF : Byte).toNat % 8) = some .a ∧
    (0x86 : Byte).toNat / 64 = 2 ∧ (0x86 : Byte).toNat % 8 = 6 ∧
    (0xFE : Byte).toNat / 64 = 3 ∧ (0xFE : Byte).toNat % 8 = 6 := by decide

end Sys2Proof.Tests
end

section
/-! The statements about the state as a whole: its register file and flags, its values at reset, and what every step
keeps of it. The lemmas before each theorem say once what a step, a documented handler and the unknown-opcode handler
do to the parts the statement is about. -/

namespace Sys2Proof.Proofs

open Machine Claims

/-! ## What a step can be, read from its next state -/

/-- The two ways a step reaches a next state: a documented form on a populated entry, or the unknown-opcode handler
(R100, R105, R106). Either way the state before was running (R34). -/
theorem step_next_cases {s t : State} (h : step s = .next t) :
    s.status = .running ∧
    ((populated s.build.populated s.fetchKey = true ∧ (formOf s.fetchInstr).isPlain = true ∧
        t = (formOf s.fetchInstr).run (s.noteOpcode s.fetchKey).enterHandler) ∨
      (populated s.build.populated s.fetchKey = false ∧
        t = (s.noteOpcode s.fetchKey).unknown s.fetchKey.1 s.fetchKey.2)) := by
  have hrun : s.status = .running := by
    by_contra hstop
    rw [step_stopped s hstop] at h
    cases h
  refine ⟨hrun, ?_⟩
  obtain ⟨hpop, hplain, hstep⟩ | ⟨hpop, hstep⟩ := step_running s hrun <;> rw [hstep] at h <;> cases h
  · exact .inl ⟨hpop, hplain, rfl⟩
  · exact .inr ⟨hpop, rfl⟩

/-- The entry the statements speak of is the one the engine looks up. -/
theorem entryAt_eq_fetchKey (s : State) : entryAt s = s.fetchKey := rfl

/-! ## The invariant -/

theorem inv_noteOpcode {s : State} (k : Key) (h : s.Inv) : (s.noteOpcode k).Inv := h

/-- Clearing the count keeps it in its range (R105). -/
theorem inv_enterHandler {s : State} (h : s.Inv) : s.enterHandler.Inv := by
  obtain ⟨hwf, hclean, -⟩ := h
  exact ⟨hwf, hclean, Nat.zero_le _, fun _ => Nat.zero_le _⟩

/-- A documented handler keeps the invariant: it writes neither the status nor the count (R104). -/
theorem inv_run_of_isPlain {f : Form} {s : State} (hf : f.isPlain = true) (h : s.Inv) : (f.run s).Inv := by
  obtain ⟨hwf, hclean, hcount⟩ := h
  obtain ⟨hstatus, hunknown, -, -⟩ := form_run_engine f s hf
  refine ⟨form_run_wf f s hf hwf, form_run_clean f s hf hclean, ?_⟩
  rwa [State.countInRange, hstatus, hunknown]

/-- From a count within the bound the unknown-opcode handler counts one more at most, and past the bound only where it
stops the run (R106, R107). -/
theorem countInRange_unknown {s : State} (t : Table) (byte : Byte) (h : s.unknownCount ≤ unknownBound) :
    (s.unknown t byte).countInRange := by
  obtain ⟨-, he⟩ | ⟨-, -, he⟩ | ⟨-, hbound, he⟩ := unknown_cases s t byte <;> rw [he]
  · exact ⟨Nat.le_succ_of_le h, nofun⟩
  · exact ⟨Nat.succ_le_succ h, nofun⟩
  · exact ⟨Nat.le_succ_of_le hbound, fun _ => hbound⟩

/-- The unknown-opcode handler keeps the invariant of a running state. -/
theorem inv_unknown {s : State} (t : Table) (byte : Byte) (hrun : s.status = .running) (h : s.Inv) :
    (s.unknown t byte).Inv := by
  obtain ⟨hwf, hclean, -, hbound⟩ := h
  refine ⟨?_, ?_, countInRange_unknown t byte (hbound hrun)⟩
  · rwa [unknown_mem]
  · rwa [flagsClean_congr (unknown_af s t byte)]

/-- Settles O50: a step is a documented handler or the unknown-opcode handler, and each keeps the invariant. -/
theorem everyStepKeepsInvariant : Obligations.EveryStepKeepsInvariant := by
  intro s t hinv hstep
  have hnoted := inv_noteOpcode s.fetchKey hinv
  obtain ⟨hrun, ⟨-, hplain, rfl⟩ | ⟨-, rfl⟩⟩ := step_next_cases hstep
  · exact inv_run_of_isPlain hplain (inv_enterHandler hnoted)
  · exact inv_unknown _ _ hrun hnoted

/-! ## Registers and flags -/

/-- Settles O3, from the laws of a read after a write of the register file. -/
theorem pairAndHalvesAgree : Obligations.PairAndHalvesAgree := by
  intro s
  obtain ⟨haf, hbc, hde, hhl⟩ := pairs_are_halves s
  refine ⟨?_, ?_, ?_, ?_, fun r v => ⟨?_, fun q hq => ?_⟩, fun r v => ⟨?_, fun q hq => ?_⟩⟩
  · exact (congrArg BitVec.toNat haf).trans (toNat_mkWord _ _)
  · exact (congrArg BitVec.toNat hbc).trans (toNat_mkWord _ _)
  · exact (congrArg BitVec.toNat hde).trans (toNat_mkWord _ _)
  · exact (congrArg BitVec.toNat hhl).trans (toNat_mkWord _ _)
  · rw [get8_set8, if_pos rfl]
  · rw [get8_set8, if_neg hq]
  · rw [get16_set16, if_pos rfl]
  · rw [get16_set16, if_neg hq]

/-- A write of one flag is a write of one bit of `F` (R12). -/
theorem get8_f_setFlag (s : State) (f : Flag) (b : Bool) :
    (s.setFlag f b).get8 .f = putBit (s.get8 .f) (flagBit f) b := by
  simp [State.get8]

/-- A write of one flag moves no half but `F`. -/
theorem get8_setFlag_of_ne_f (s : State) (f : Flag) (b : Bool) {r : Reg8} (hr : r ≠ .f) :
    (s.setFlag f b).get8 r = s.get8 r := by
  cases r with
  | f => exact absurd rfl hr
  | _ => simp [State.get8]

/-- A write of one flag leaves bits 3:0 of `F` as they were. -/
theorem getLsbD_f_setFlag_of_lt_four (s : State) (f : Flag) (b : Bool) {i : Nat} (hi : i < 4) :
    ((s.setFlag f b).get8 .f).getLsbD i = (s.get8 .f).getLsbD i := by
  have hne : i ≠ flagBit f := by have := four_le_flagBit f; omega
  rw [get8_f_setFlag]
  exact (bitAt_putBit _ _ _ _ (flagBit_lt f)).trans (if_neg hne)

/-- Settles O4: the places of the flags are `flagBit`'s, and a write of one flag is a write of that bit. -/
theorem flagsAreTheTopBitsOfF : Obligations.FlagsAreTheTopBitsOfF := by
  intro s
  refine ⟨rfl, rfl, rfl, rfl, fun f b => ⟨?_, fun g hg => ?_, fun r hr => ?_, fun i hi => ?_⟩⟩
  · rw [flag_setFlag, if_pos rfl]
  · rw [flag_setFlag, if_neg hg]
  · exact get8_setFlag_of_ne_f s f b hr
  · exact getLsbD_f_setFlag_of_lt_four s f b hi

/-! ## What every step keeps -/

/-- Settles O46: a running state's step is a documented form or the unknown-opcode handler, and both answer. -/
theorem onlyRunningStatesStep : Obligations.OnlyRunningStatesStep := by
  refine fun s => ⟨fun hrun => ?_, step_stopped s⟩
  obtain ⟨-, -, hstep⟩ | ⟨-, hstep⟩ := step_running s hrun
  · exact ⟨_, hstep⟩
  · exact ⟨_, hstep⟩

/-- Settles O53: the cost is the form's on a populated entry, and the unknown-opcode handler has none. -/
theorem cyclesOnlyGrow : Obligations.CyclesOnlyGrow := by
  intro s t hstep
  rw [entryAt_eq_fetchKey]
  obtain ⟨-, ⟨hpop, hplain, rfl⟩ | ⟨hpop, rfl⟩⟩ := step_next_cases hstep
  · rw [if_pos hpop]
    exact form_run_cycles _ (s.noteOpcode s.fetchKey).enterHandler hplain
  · rw [if_neg (by simp [hpop]), unknown_cycles, noteOpcode_cycles]

/-- The unknown-opcode handler stops the run or lets it go on, and never quits (R106, R344). -/
theorem unknown_status_ne_quit {s : State} (t : Table) (byte : Byte) (hrun : s.status = .running) :
    (s.unknown t byte).status ≠ .quit := by
  obtain ⟨-, he⟩ | ⟨-, -, he⟩ | ⟨-, -, he⟩ := unknown_cases s t byte <;> rw [he]
  · exact nofun
  · exact nofun
  · rw [log_status, hrun]
    exact nofun

/-- Settles O54: both kinds of step keep the build, append to the stream, and leave quitting to the host. -/
theorem stepsKeepTheBuildAndTheStream : Obligations.StepsKeepTheBuildAndTheStream := by
  intro s t hstep
  obtain ⟨hrun, ⟨-, hplain, rfl⟩ | ⟨-, rfl⟩⟩ := step_next_cases hstep
  · obtain ⟨hstatus, -, -, hbuild⟩ := form_run_engine _ (s.noteOpcode s.fetchKey).enterHandler hplain
    refine ⟨hbuild, form_run_diag _ (s.noteOpcode s.fetchKey).enterHandler hplain, ?_⟩
    rw [hstatus, enterHandler_status, noteOpcode_status, hrun]
    exact nofun
  · refine ⟨unknown_build _ _ _, ?_, unknown_status_ne_quit _ _ hrun⟩
    rw [unknown_diag]
    exact ⟨_, rfl⟩

/-! ## Reset -/

/-- The empty image leaves every byte as an unlisted one reads (R61). -/
theorem readByte_reset (x : Word) : State.reset.readByte x = 0x00 := Memory.read_nil x.toNat

/-- Settles O1: the registers are literals of `State.reset`, and its memory lists no byte. -/
theorem resetValues : Obligations.ResetValues :=
  ⟨by decide, by decide, rfl, rfl, rfl, rfl, rfl, rfl, rfl, rfl, rfl, rfl, readByte_reset⟩

/-- Settles O2: the empty memory is canonical, 0xB0 has bits 3:0 zero, and the count is 0. -/
theorem resetMeetsInvariant : Obligations.ResetMeetsInvariant := by
  have hclean : State.reset.get8 .f &&& 0x0F = 0 := by decide
  exact ⟨rfl, hclean, Nat.zero_le _, fun _ => Nat.zero_le _⟩

end Sys2Proof.Proofs
end

section
/-! The memory family: byte and word writes of the Memory Unit, the load of an image, and the bytes no step changes. The
lemmas before each theorem say once how the boundary test, a refused or a stored write, and an image's cells read in the
statements' numbers. -/

namespace Sys2Proof.Proofs

open Machine Claims

/-! ## The boundary in numbers (R51) -/

theorem isRom_eq_true_iff (a : Word) : isRom a = true ↔ a.toNat < 0x8000 := decide_eq_true_iff

theorem isRom_eq_false_iff (a : Word) : isRom a = false ↔ 0x8000 ≤ a.toNat :=
  decide_eq_false_iff_not.trans Nat.not_lt

/-! ## The bytes no step changes -/

/-- What the engine writes before a handler runs is no register a store's address is computed from (R101, R105). -/
theorem stores_enterHandler_noteOpcode (f : Form) (s : State) (k : Key) :
    f.stores (s.noteOpcode k).enterHandler = f.stores s := by
  cases f with
  | storeAt mode r len m => cases mode <;> rfl
  | _ => rfl

/-- Settles O51: a documented handler changes no byte below the boundary, and the unknown-opcode handler no byte at all. -/
theorem romNeverChanges : Obligations.RomNeverChanges := by
  intro s t hstep x hx
  obtain ⟨-, ⟨-, hplain, rfl⟩ | ⟨-, rfl⟩⟩ := step_next_cases hstep
  · rw [form_run_rom _ _ hplain x ((isRom_eq_true_iff x).mpr hx), enterHandler_readByte, noteOpcode_readByte]
  · rw [unknown_readByte, noteOpcode_readByte]

/-- Settles O52: a documented handler stores only where its form says, at addresses that are the instruction's in the
state before the step; the unknown-opcode handler stores nothing. -/
theorem stepStoresOnlyWhereItsInstructionSays : Obligations.StepStoresOnlyWhereItsInstructionSays := by
  intro s t hstep x hx
  obtain ⟨-, ⟨-, hplain, rfl⟩ | ⟨-, rfl⟩⟩ := step_next_cases hstep
  · rw [storesOf_form, ← stores_enterHandler_noteOpcode _ s s.fetchKey] at hx
    rw [form_run_read _ _ hplain x hx, enterHandler_readByte, noteOpcode_readByte]
  · rw [unknown_readByte, noteOpcode_readByte]

/-! ## Writes of the Memory Unit -/

/-- A byte write changes the memory and the stream at most (R54, R55). -/
theorem writeByte_frame (s : State) (a : Word) (v : Byte) :
    s.writeByte a v = { s with mem := (s.writeByte a v).mem, diag := (s.writeByte a v).diag } := by
  unfold State.writeByte
  split <;> rfl

/-- A word write changes the memory and the stream at most (R56). -/
theorem writeWord_frame (s : State) (a v : Word) :
    s.writeWord a v = { s with mem := (s.writeWord a v).mem, diag := (s.writeWord a v).diag } := by
  unfold State.writeWord
  split
  · rfl
  · rw [writeByte_frame (s.writeByte a (loByte v)), writeByte_frame s]

/-- A byte write is the byte store of the statements (R54, R55). -/
theorem storesByte_writeByte (s : State) (a : Word) (v : Byte) : StoresByte s (s.writeByte a v) a v := by
  refine ⟨fun x => ?_, ?_⟩
  · simp only [readByte_writeByte, isRom_eq_false_iff]
  · simp only [diag_writeByte, isRom_eq_true_iff]

/-- Settles O5: what a byte write stores, and its frame. -/
theorem byteWriteIsSeenOrRefused : Obligations.ByteWriteIsSeenOrRefused :=
  fun s a v => ⟨storesByte_writeByte s a v, writeByte_frame s a v⟩

/-- A word write is the word store of the statements: refused whole below the boundary, else its two bytes stand at two
different addresses, of which the second alone may be refused (R56). -/
theorem storesWord_writeWord (s : State) (a v : Word) : StoresWord s (s.writeWord a v) a v := by
  have hne : a ≠ a + 1 := by bv_omega
  unfold StoresWord
  simp only [readByte_writeWord, diag_writeWord, isRom_eq_true_iff, isRom_eq_false_iff]
  split
  case isTrue => exact ⟨fun _ => rfl, rfl⟩
  case isFalse =>
    split
    case isTrue hrefused => exact ⟨fun x => if_neg fun ⟨_, hstored⟩ => Nat.not_lt.mpr hstored hrefused, rfl⟩
    case isFalse hstored =>
      refine ⟨fun x => ?_, rfl⟩
      by_cases hx : x = a
      · rw [if_neg (fun h => hne (hx.symm.trans h.1)), if_pos hx, if_pos hx]
      · simp only [hx, Nat.not_lt.mp hstored, and_true, if_false]

/-- Settles O6: the value of a word read, what a word write stores, and its frame. -/
theorem wordsAreLittleEndian : Obligations.WordsAreLittleEndian :=
  fun s a v => ⟨toNat_mkWord _ _, storesWord_writeWord s a v, writeWord_frame s a v⟩

/-! ## The load of an image (R61, R332) -/

/-- An image that ends inside the address space gives canonical cells. -/
theorem wfFrom_imageCells {a : Nat} {image : List Byte} (h : a + image.length ≤ 65536) :
    Memory.wfFrom a (imageCells a image) = true := by
  induction image generalizing a with
  | nil => rfl
  | cons b rest ih =>
    rw [List.length_cons] at h
    have hrest : Memory.wfFrom (a + 1) (imageCells (a + 1) rest) = true := ih (by omega)
    unfold imageCells
    split
    · exact Memory.wfFrom_mono a.le_succ hrest
    · exact (Memory.wfFrom_cons ..).mpr ⟨a.le_refl, by omega, ‹_›, hrest⟩

/-- The first byte of an image reads at its address whether or not it has a cell, and the others at the addresses after
it (R61). -/
theorem read_imageCells_cons {a : Nat} {b : Byte} {rest : List Byte} (h : a + (b :: rest).length ≤ 65536) (x : Nat) :
    (imageCells a (b :: rest)).read x = if a = x then b else (imageCells (a + 1) rest).read x := by
  rw [List.length_cons] at h
  have hbelow := Memory.read_of_wfFrom (wfFrom_imageCells (a := a + 1) (image := rest) (by omega)) a a.lt_succ_self
  rw [imageCells]
  split
  · split
    · subst x b
      exact hbelow
    · rfl
  · exact Memory.read_cons ..

/-- The cells of an image read as its bytes, and past its end as an unlisted address does (R61). -/
theorem read_imageCells {a : Nat} {image : List Byte} (h : a + image.length ≤ 65536) (i : Nat) :
    (imageCells a image).read (a + i) = image.getD i Memory.unlisted := by
  induction image generalizing a i with
  | nil => rfl
  | cons b rest ih =>
    rw [read_imageCells_cons h]
    rw [List.length_cons] at h
    cases i with
    | zero => exact if_pos rfl
    | succ i =>
      have hshift : a + (i + 1) = (a + 1) + i := by omega
      rw [if_neg (by omega), hshift, ih (by omega), List.getD_cons_succ]

/-- The state created from an image that fits the read-only region meets the invariant: its registers, status and count
are those of reset, its memory the image's cells. -/
theorem inv_initial (build : Build) (boot : BootRegs) {image : List Byte} (h : image.length ≤ 0x8000) :
    (State.initial build boot image).Inv := by
  obtain ⟨-, hclean, hcount⟩ := resetMeetsInvariant
  exact ⟨wfFrom_imageCells (by omega), hclean, hcount⟩

/-- Settles O7: creation refuses no image and an image past the region's end, and else answers `State.initial`. -/
theorem imageIsLoadedOrRefused : Obligations.ImageIsLoadedOrRefused := by
  refine fun build boot image => ⟨rfl, fun hlong => if_pos hlong, fun hfits => ?_⟩
  refine ⟨State.initial build boot image, if_neg (Nat.not_lt.mpr hfits), inv_initial build boot hfits, fun x => ?_, rfl⟩
  have hread := read_imageCells (a := 0) (image := image) (by omega) x.toNat
  rwa [Nat.zero_add] at hread

end Sys2Proof.Proofs
end

section
/-! The encoding family: the decoder undoes the encoder and the encoder the decoder, the cells of both maps read by
their fields, and the entries of the two profiles. The lemmas before each theorem say once what a word operand, a cell of
a block and a decoded string are. -/

namespace Sys2Proof.Proofs

open Machine Claims

/-! ## Round trips (R80, R81, R92, R93) -/

/-- The bytes of an instruction with a word operand, low byte first, read back as that word (R81). -/
theorem decode_bytesF3 {b : Byte} {mk : Word → Instr} (hcell : primaryEntry b = .f3 mk) (d : Word) (rest : List Byte) :
    decode (bytesF3 b d ++ rest) = .ok (mk d, rest) := by
  have hbytes : decode (bytesF3 b d ++ rest) = .ok (mk (mkWord (hiByte d) (loByte d)), rest) := by
    simp only [bytesF3, decode, List.cons_append, List.nil_append, hcell]
  rw [hbytes, mkWord_hiByte_loByte]

/-- Settles O56, by the format of the instruction (R81): a word operand is put together again from its two bytes, an
operand byte is copied, and every other byte is a constant that selects its cell. -/
theorem decodeOfEncode : Obligations.DecodeOfEncode := by
  intro i rest hwf
  cases i with
  | prefixCb => cases hwf
  | ldBcD16 d | ldDeD16 d | ldHlD16 d | ldSpD16 d => exact decode_bytesF3 rfl d rest
  | ldAtA16Sp a | ldAtA16A a | ldAAtA16 a => exact decode_bytesF3 rfl a rest
  | jpA16 a | jpNzA16 a | jpZA16 a | jpNcA16 a | jpCA16 a => exact decode_bytesF3 rfl a rest
  | callA16 a | callNzA16 a | callZA16 a | callNcA16 a | callCA16 a => exact decode_bytesF3 rfl a rest
  | _ => rfl

/-- A string that is an instruction's encoding decodes to it and leaves nothing. -/
theorem decode_of_encode_eq {bytes : List Byte} {i : Instr} (hwf : i.wellFormed = true) (hbytes : encode i = bytes) :
    decode bytes = .ok (i, []) := by
  rw [← hbytes, ← List.append_nil (encode i)]
  exact decodeOfEncode i [] hwf

/-- Decoding takes one to three bytes off the front (R80). -/
theorem length_of_decode {bytes rest : List Byte} {i : Instr} (h : decode bytes = .ok (i, rest)) :
    rest.length + 1 ≤ bytes.length ∧ bytes.length ≤ rest.length + 3 := by
  unfold decode at h
  split at h
  · cases h
  · split at h <;> cases h <;> simp

/-- Settles O57: the string is the encoding and the rest, so the encoding is as long as what decoding takes. -/
theorem encodeOfDecode : Obligations.EncodeOfDecode := by
  intro bytes rest i h
  have hbytes := encode_of_decode h
  have hlength := length_of_decode h
  rw [← hbytes, List.length_append] at hlength
  exact ⟨hbytes, by omega, by omega⟩

/-! ## The cells by their fields (R82, R85) -/

/-- A byte is its three fields: the block in bits 7:6, then bits 5:3 and bits 2:0. -/
theorem byte_of_fields (b : Byte) :
    BitVec.ofNat 8 (64 * (b.toNat / 64) + 8 * (b.toNat / 8 % 8) + b.toNat % 8) = b := by
  have hsum : 64 * (b.toNat / 64) + 8 * (b.toNat / 8 % 8) + b.toNat % 8 = b.toNat := by omega
  rw [hsum, BitVec.ofNat_toNat, BitVec.setWidth_eq]

/-- The form of a cell of 0x40 to 0x7F, from what its two fields name; `none` is the byte at HL. -/
def loadBlockForm : Option Reg8 → Option Reg8 → Form
  | some dst, some src => .copyReg dst src
  | some dst, none => .loadAt dst .hl 1 2
  | none, some src => .storeAt .hl src 1 2
  | none, none => .unknownPrimary 0x76

/-- The form of a cell of 0x80 to 0xBF, from its operation and what its operand field names. -/
def aluBlockForm (op : AluOp) : Option Reg8 → Form
  | some src => .aluReg op src
  | none => .aluMem op

theorem formOf_loadBlock {b : Byte} (b1 b2 : Byte) (hblock : b.toNat / 64 = 1) :
    formOf (decodeBytes b b1 b2) = loadBlockForm (reg8Of (b.toNat / 8 % 8)) (reg8Of (b.toNat % 8)) := by
  have hcells : ∀ y < 8, ∀ z < 8,
      formOf (decodeBytes (BitVec.ofNat 8 (64 * 1 + 8 * y + z)) b1 b2) = loadBlockForm (reg8Of y) (reg8Of z) := by
    intro y hy z hz
    interval_cases y <;> interval_cases z <;> rfl
  have hcell := hcells (b.toNat / 8 % 8) (by omega) (b.toNat % 8) (by omega)
  rwa [← hblock, byte_of_fields] at hcell

theorem formOf_aluBlock {b : Byte} (b1 b2 : Byte) (hblock : b.toNat / 64 = 2) :
    formOf (decodeBytes b b1 b2) = aluBlockForm (aluOpOf (b.toNat / 8 % 8)) (reg8Of (b.toNat % 8)) := by
  have hcells : ∀ y < 8, ∀ z < 8,
      formOf (decodeBytes (BitVec.ofNat 8 (64 * 2 + 8 * y + z)) b1 b2) = aluBlockForm (aluOpOf y) (reg8Of z) := by
    intro y hy z hz
    interval_cases y <;> interval_cases z <;> rfl
  have hcell := hcells (b.toNat / 8 % 8) (by omega) (b.toNat % 8) (by omega)
  rwa [← hblock, byte_of_fields] at hcell

theorem formOf_aluImmediate {b : Byte} (b1 b2 : Byte) (hblock : b.toNat / 64 = 3) (hcolumn : b.toNat % 8 = 6) :
    formOf (decodeBytes b b1 b2) = .aluImm (aluOpOf (b.toNat / 8 % 8)) b1 := by
  have hcells : ∀ y < 8, formOf (decodeBytes (BitVec.ofNat 8 (64 * 3 + 8 * y + 6)) b1 b2) = .aluImm (aluOpOf y) b1 := by
    intro y hy
    interval_cases y <;> rfl
  have hcell := hcells (b.toNat / 8 % 8) (by omega)
  rwa [← hblock, ← hcolumn, byte_of_fields] at hcell

/-- The rows in which one field runs, cell by cell (R82 to R85, R92). -/
theorem decodeBytes_fieldRows (b1 b2 : Byte) : ∀ f ∈ fieldRows b1 (mkWord b2 b1), ∀ x ∈ f.instrs.zipIdx,
    decodeBytes (BitVec.ofNat 8 (f.base + f.stride * x.2)) b1 b2 = x.1 := by
  have hrows : (fieldRows b1 (mkWord b2 b1)).map (fun f =>
        f.instrs.zipIdx.map fun x => decodeBytes (BitVec.ofNat 8 (f.base + f.stride * x.2)) b1 b2) =
      (fieldRows b1 (mkWord b2 b1)).map fun f => f.instrs.zipIdx.map Prod.fst := by
    simp only [fieldRows, List.map_cons, List.map_nil, List.zipIdx_cons, List.zipIdx_nil]
    rfl
  exact fun f hf => List.map_inj_left.mp (List.map_inj_left.mp hrows f hf)

/-- The documented cells without a field (R87). -/
theorem decodeBytes_fixedCells (b1 b2 : Byte) : ∀ x ∈ fixedCells b1 (mkWord b2 b1), decodeBytes x.1 b1 b2 = x.2 := by
  have hcells : (fixedCells b1 (mkWord b2 b1)).map (fun x => decodeBytes x.1 b1 b2) =
      (fixedCells b1 (mkWord b2 b1)).map Prod.snd := by
    simp only [fixedCells, List.map_cons, List.map_nil]
    rfl
  exact List.map_inj_left.mp hcells

/-- The gap bytes and the illegal bytes (R89, R90). -/
theorem decodeBytes_unknownForms (b1 b2 : Byte) : ∀ x ∈ unknownForms, decodeBytes x.2 b1 b2 = x.1 :=
  have hcells : unknownForms.map (fun x => decodeBytes x.2 b1 b2) = unknownForms.map Prod.fst := rfl
  List.map_inj_left.mp hcells

/-- After the 0xCB byte the handler is the one that the sub-opcode's fields give (R85, R103). -/
theorem exec_decodeBytes_cb (sub b2 : Byte) (s : State) :
    exec (decodeBytes 0xCB sub b2) s = .next (secondaryHandler sub s) := by
  have hcell : decodeBytes 0xCB sub b2 = secondaryInstr sub := rfl
  rw [hcell, exec_form, formOf_secondaryInstr, secondaryHandler_form]

/-- Settles O58: the listed cells are read off the map, and in a block the fields give the form and so the meaning. -/
theorem operandFieldsDecode : Obligations.OperandFieldsDecode := by
  intro s b b1 b2
  have hmem : reg8Of 6 = none := rfl
  refine ⟨⟨_, decode_three b b1 b2 []⟩, decodeBytes_fieldRows b1 b2, decodeBytes_fixedCells b1 b2,
    decodeBytes_unknownForms b1 b2, rfl, ?copy, ?load, ?store, ?aluReg, ?aluMem, ?aluImm, exec_decodeBytes_cb b b2 s⟩
  case copy =>
    intro hblock dst src hdst hsrc
    rw [exec_form, formOf_loadBlock b1 b2 hblock, hdst, hsrc]
    rfl
  case load =>
    intro hblock dst hdst hsrc
    rw [exec_form, formOf_loadBlock b1 b2 hblock, hdst, hsrc, hmem]
    rfl
  case store =>
    intro hblock src hdst hsrc
    rw [exec_form, formOf_loadBlock b1 b2 hblock, hdst, hsrc, hmem]
    rfl
  case aluReg =>
    intro hblock src hsrc
    rw [exec_form, formOf_aluBlock b1 b2 hblock, hsrc]
    rfl
  case aluMem =>
    intro hblock hsrc
    rw [exec_form, formOf_aluBlock b1 b2 hblock, hsrc, hmem]
    rfl
  case aluImm =>
    intro hblock hcolumn
    rw [exec_form, formOf_aluImmediate b1 b2 hblock hcolumn]
    rfl

/-- Settles O59: each word is what the encoder writes for its instruction. -/
theorem knownWordsDecode : Obligations.KnownWordsDecode := by
  unfold Obligations.KnownWordsDecode
  and_intros <;> exact decode_of_encode_eq rfl rfl

/-! ## The entries of the profiles (R86) -/

/-- The bytes of R89 and R90 are not documented. -/
theorem documented_unknownForms : ∀ x ∈ unknownForms, documented (.primary, x.2) = false := by decide

/-- No build populates a byte of R89 or R90: what a build populates is documented. -/
theorem populated_unknownForms (p : Populated) : ∀ x ∈ unknownForms, populated p (.primary, x.2) = false := by
  intro x hx
  refine Bool.eq_false_iff.mpr fun hpop => ?_
  have hdoc := populated_documented hpop
  rw [documented_unknownForms x hx] at hdoc
  cases hdoc

/-- Counting a table is counting its four blocks, which bits 7:6 of the byte select. -/
theorem countP_range_256 (p : Nat → Bool) :
    (List.range 256).countP p =
    (List.range 64).countP p + (List.range 64).countP (fun n => p (64 + n)) +
      (List.range 64).countP (fun n => p (128 + n)) + (List.range 64).countP (fun n => p (192 + n)) := by
  have hblocks : 256 = 64 + 64 + 64 + 64 := rfl
  rw [hblocks, List.range_add, List.range_add, List.range_add]
  simp only [List.countP_append, List.countP_map]
  rfl

/-- The primary entries of `DOC_NAMED`, by block: those of `FULL` without the 21 of the first block and the 25 of the last one
that `fullOnlyBytes` lists. -/
theorem countP_docNamed_primary :
    ((List.range 256).countP fun n => populated .docNamed (.primary, BitVec.ofNat 8 n)) = 193 := by
  have hblock0 : ((List.range 64).countP fun n => populated .docNamed (.primary, BitVec.ofNat 8 n)) = 42 := by decide
  have hblock1 : ((List.range 64).countP fun n => populated .docNamed (.primary, BitVec.ofNat 8 (64 + n))) = 63 := by decide
  have hblock2 : ((List.range 64).countP fun n => populated .docNamed (.primary, BitVec.ofNat 8 (128 + n))) = 64 := by decide
  have hblock3 : ((List.range 64).countP fun n => populated .docNamed (.primary, BitVec.ofNat 8 (192 + n))) = 24 := by decide
  rw [countP_range_256, hblock0, hblock1, hblock2, hblock3]

/-- The primary entries of `FULL`, by block: without STOP, HALT, and fifteen bytes of the last block (the 0xCB byte, three
gap bytes and the illegal bytes). -/
theorem countP_full_primary :
    ((List.range 256).countP fun n => populated .full (.primary, BitVec.ofNat 8 n)) = 239 := by
  have hblock0 : ((List.range 64).countP fun n => populated .full (.primary, BitVec.ofNat 8 n)) = 63 := by decide
  have hblock1 : ((List.range 64).countP fun n => populated .full (.primary, BitVec.ofNat 8 (64 + n))) = 63 := by decide
  have hblock2 : ((List.range 64).countP fun n => populated .full (.primary, BitVec.ofNat 8 (128 + n))) = 64 := by decide
  have hblock3 : ((List.range 64).countP fun n => populated .full (.primary, BitVec.ofNat 8 (192 + n))) = 49 := by decide
  rw [countP_range_256, hblock0, hblock1, hblock2, hblock3]

/-- Settles O60: the primary entries are counted, `DOC_NAMED` populates no secondary entry and `FULL` each one. -/
theorem profilesHaveTheirEntries : Obligations.ProfilesHaveTheirEntries := by
  refine ⟨countP_docNamed_primary, ?_, countP_full_primary, ?_, populated_unknownForms⟩
  · exact List.countP_eq_zero.mpr fun n _ => Bool.false_ne_true
  · exact (List.countP_eq_length.mpr fun n _ => rfl).trans List.length_range

end Sys2Proof.Proofs
end

section
/-! The dispatch family: the step of a running state as one equation, a populated handler, the 0xCB cell, and a
permissive run that does not leave an unpopulated entry. The lemmas before each theorem say once what the engine does
at an entry and how steps in a row compose. -/

namespace Sys2Proof.Proofs

open Machine Claims

/-! ## The step of a running state (R100 to R106) -/

/-- The engine's one choice, in the statements' words: the fetched instruction with the byte noted and the count cleared,
or the unknown-opcode handler. -/
theorem step_eq_of_running {s : State} (hrun : s.status = .running) :
    step s =
      if populated s.build.populated (entryAt s) then
        exec s.fetchInstr { s with opcode := (entryAt s).2, unknownCount := 0 }
      else .next (({ s with opcode := (entryAt s).2 }).unknown (entryAt s).1 (entryAt s).2) := by
  unfold step
  split
  · rfl
  · exact absurd hrun ‹_›

/-- What the three bytes from `pc` on decode to is the instruction a step fetches (R92, R93). -/
theorem fetchInstr_of_decode {s : State} {i : Instr} {rest : List Byte}
    (hdecode : decode [s.readByte s.pc, s.readByte (s.pc + 1), s.readByte (s.pc + 2)] = .ok (i, rest)) :
    s.fetchInstr = i := by
  rw [decode_three] at hdecode
  injection hdecode with hpair
  exact congrArg Prod.fst hpair

/-- Settles O45: the decoded instruction is the fetched one, which is always a whole one. -/
theorem stepRunsTheDecodedInstruction : Obligations.StepRunsTheDecodedInstruction := by
  intro s i rest hrun hdecode _
  rw [← fetchInstr_of_decode hdecode]
  exact step_eq_of_running hrun

/-- Settles O47: a documented handler writes none of the engine's fields, which hold what the engine put there before
the handler ran (R104). -/
theorem populatedHandlersKeepRunning : Obligations.PopulatedHandlersKeepRunning := by
  intro s hrun hentry
  rw [entryAt_eq_fetchKey] at hentry ⊢
  obtain ⟨-, hplain, hstep⟩ | ⟨hunpopulated, -⟩ := step_running s hrun
  · obtain ⟨hstatus, hcount, hopcode, -⟩ := form_run_engine _ (s.noteOpcode s.fetchKey).enterHandler hplain
    exact ⟨_, hstep, hstatus.trans hrun, hcount, hopcode⟩
  · rw [hentry] at hunpopulated
    cases hunpopulated

/-! ## The 0xCB cell (R103, R288) -/

/-- The instruction of a secondary cell runs the handler that the fields of its sub-opcode give (R85). -/
theorem exec_secondaryInstr (sub : Byte) (s : State) : exec (secondaryInstr sub) s = .next (secondaryHandler sub s) :=
  exec_decodeBytes_cb sub 0 s

theorem dispatchCb_of_populated {s : State}
    (hentry : populated s.build.populated (.cb, s.readByte (s.pc + 1)) = true) :
    dispatchCb s = secondaryHandler (s.readByte (s.pc + 1))
      { s with opcode := s.readByte (s.pc + 1), unknownCount := 0 } :=
  if_pos hentry

theorem dispatchCb_of_not_populated {s : State}
    (hentry : populated s.build.populated (.cb, s.readByte (s.pc + 1)) = false) :
    dispatchCb s = ({ s with opcode := s.readByte (s.pc + 1) }).unknown .cb (s.readByte (s.pc + 1)) :=
  if_neg (Bool.eq_false_iff.mp hentry)

/-- Settles O44: the cell's meaning is the dispatch of the sub-opcode, by whether the build populates its entry. -/
theorem prefixRunsTheSecondaryEntry : Obligations.PrefixRunsTheSecondaryEntry := by
  intro s
  have hcell : exec .prefixCb s = .next (dispatchCb s) := rfl
  refine ⟨fun hentry => ⟨⟨_, hcell⟩, ?_⟩, fun hentry => ?_⟩
  · rw [hcell, dispatchCb_of_populated hentry, exec_secondaryInstr]
  · rw [hcell, dispatchCb_of_not_populated hentry]

/-! ## A permissive run on an unpopulated entry (R106, R107) -/

/-- A run goes on from where its first `m` steps ended. -/
theorem run_add_of_run_eq {M : Host.Core} {m : Nat} {s t : M.State} (h : M.run m s = .next t) (n : Nat) :
    M.run (m + n) s = M.run n t := by
  induction m generalizing s with
  | zero =>
    cases h
    rw [Nat.zero_add]
  | succ m ih =>
    rw [Nat.add_right_comm]
    rw [Host.Core.run] at h ⊢
    cases hstep : M.step s <;> rw [hstep] at h
    case next => exact ih h
    case fault => cases h
    case refused => cases h

/-- A run of one step is the step. -/
theorem run_one_of_step_eq {M : Host.Core} {s t : M.State} (h : M.step s = .next t) : M.run 1 s = .next t := by
  unfold Host.Core.run
  rw [h]
  rfl

/-- The core runs, permissive, at an entry its build does not populate, and the unknown-opcode handler does not move
`pc`. -/
structure StaysAtUnknown (s : State) : Prop where
  running : s.status = .running
  permissive : s.build.unknownPolicy = .permissive
  noAdvance : s.build.unknownPcAdvance = 0
  unpopulated : populated s.build.populated (entryAt s) = false

/-- The event that the unknown-opcode handler logs for the entry at `pc`. -/
def unknownEvent (s : State) : DiagEvent := .unknownOpcode (entryAt s).1 (entryAt s).2 s.pc

/-- The state after the entry at `pc` was logged and counted `n` times: its byte noted, nothing else changed. -/
def countedUnknown (s : State) (n : Nat) : State :=
  { s with opcode := (entryAt s).2, unknownCount := s.unknownCount + n,
           diag := s.diag ++ List.replicate n (unknownEvent s) }

/-- Counting moves neither `pc` nor the memory nor the build, so the core stays at the entry. -/
theorem staysAtUnknown_countedUnknown {s : State} (h : StaysAtUnknown s) (n : Nat) :
    StaysAtUnknown (countedUnknown s n) := by
  obtain ⟨hrun, hperm, hadvance, hentry⟩ := h
  exact ⟨hrun, hperm, hadvance, hentry⟩

theorem countedUnknown_countedUnknown (s : State) (m n : Nat) :
    countedUnknown (countedUnknown s m) n = countedUnknown s (m + n) := by
  have hcount : s.unknownCount + m + n = s.unknownCount + (m + n) := Nat.add_assoc ..
  have hdiag : s.diag ++ List.replicate m (unknownEvent s) ++ List.replicate n (unknownEvent s) =
      s.diag ++ List.replicate (m + n) (unknownEvent s) := by
    rw [List.append_assoc, List.replicate_append_replicate]
  exact congrArg₂ (fun count diag => { s with opcode := (entryAt s).2, unknownCount := count, diag := diag }) hcount hdiag

/-- At an unpopulated entry the step is the unknown-opcode handler on the state with the byte noted. -/
theorem step_of_staysAtUnknown {s : State} (h : StaysAtUnknown s) :
    step s = .next (({ s with opcode := (entryAt s).2 }).unknown (entryAt s).1 (entryAt s).2) := by
  rw [step_eq_of_running h.running, if_neg (Bool.eq_false_iff.mp h.unpopulated)]

/-- Up to the bound a step counts the entry once more. -/
theorem step_counts {s : State} (h : StaysAtUnknown s) (hcount : s.unknownCount < 100) :
    step s = .next (countedUnknown s 1) := by
  rw [step_of_staysAtUnknown h]
  obtain ⟨hstrict, -⟩ | ⟨-, hpast, -⟩ | ⟨-, -, hnext⟩ :=
    unknown_cases { s with opcode := (entryAt s).2 } (entryAt s).1 (entryAt s).2
  · cases h.permissive.symm.trans hstrict
  · exact absurd hcount (Nat.not_lt.mpr (Nat.le_of_lt_succ hpast))
  · have hpc : s.pc + BitVec.ofNat 16 s.build.unknownPcAdvance.val = s.pc := by
      rw [h.noAdvance]
      exact BitVec.add_zero _
    rw [hnext]
    dsimp only
    rw [hpc]
    rfl

/-- From the bound on the step counts the entry once more and ends the run. -/
theorem step_exceeds {s : State} (h : StaysAtUnknown s) (hcount : 100 ≤ s.unknownCount) :
    step s = .next { countedUnknown s 1 with
      status := .fatal (.unknownBoundExceeded (entryAt s).1 (entryAt s).2 s.pc) } := by
  rw [step_of_staysAtUnknown h]
  obtain ⟨hstrict, -⟩ | ⟨-, -, hnext⟩ | ⟨-, hbelow, -⟩ :=
    unknown_cases { s with opcode := (entryAt s).2 } (entryAt s).1 (entryAt s).2
  · cases h.permissive.symm.trans hstrict
  · rw [hnext]
    rfl
  · exact absurd hcount (Nat.not_le.mpr hbelow)

/-- Up to the bound the core stays where it is and counts each step (R107). -/
theorem run_counts {s : State} (h : StaysAtUnknown s) {n : Nat} (hn : 1 ≤ n) (hbound : s.unknownCount + n ≤ 100) :
    Host.Core.run core n s = .next (countedUnknown s n) := by
  induction n, hn using Nat.le_induction with
  | base => exact run_one_of_step_eq (step_counts h hbound)
  | succ n _ ih =>
    have hrun : Host.Core.run core n s = .next (countedUnknown s n) := ih (by omega)
    have hstep : step (countedUnknown s n) = .next (countedUnknown (countedUnknown s n) 1) :=
      step_counts (staysAtUnknown_countedUnknown h n) hbound
    rw [countedUnknown_countedUnknown] at hstep
    exact (run_add_of_run_eq hrun 1).trans (run_one_of_step_eq hstep)

/-- The step after the one that counts up to the bound ends the run (R107). -/
theorem run_exceeds {s : State} (h : StaysAtUnknown s) {n : Nat} (hn : 1 ≤ n) (hbound : s.unknownCount + n = 100) :
    Host.Core.run core (n + 1) s = .next { countedUnknown s (n + 1) with
      status := .fatal (.unknownBoundExceeded (entryAt s).1 (entryAt s).2 s.pc) } := by
  have hlast : step (countedUnknown s n) = .next { countedUnknown (countedUnknown s n) 1 with
      status := .fatal (.unknownBoundExceeded (entryAt s).1 (entryAt s).2 s.pc) } :=
    step_exceeds (staysAtUnknown_countedUnknown h n) hbound.ge
  rw [countedUnknown_countedUnknown] at hlast
  exact (run_add_of_run_eq (run_counts h hn hbound.le) 1).trans (run_one_of_step_eq hlast)

/-- Settles O49: from a count of 0 the first 100 steps count up to the bound, and the step after them exceeds it. -/
theorem permissiveRunEndsAtTheBound : Obligations.PermissiveRunEndsAtTheBound := by
  intro s hrun hperm hadvance hzero hentry
  have hstays : StaysAtUnknown s := ⟨hrun, hperm, hadvance, hentry⟩
  have hcounted : ∀ n, countedUnknown s n = { s with
      opcode := (entryAt s).2, unknownCount := n, diag := s.diag ++ List.replicate n (unknownEvent s) } := by
    intro n
    rw [countedUnknown, hzero, Nat.zero_add]
  refine ⟨fun n hn hbound => ?_, ?_⟩
  · rw [run_counts hstays hn (by omega), hcounted]
    rfl
  · rw [run_exceeds hstays (n := 100) (by decide) (by omega), hcounted]
    rfl

end Sys2Proof.Proofs
end

section
/-! The 8-bit ALU family: the nine forms of each operation of the ALU block, INC and DEC of a register and of the byte at
HL, DAA, CPL, SCF and CCF. The lemmas before the theorems say once how `F` and each flag computation read in the
statements' numbers, and what each shared operation writes in the statements' terms. -/

namespace Sys2Proof.Proofs

open Machine Claims

/-! ## The flag byte in numbers (R12, R26) -/

/-- A write of all of `F` writes the statements' byte. -/
theorem flagByte_eq_fOf : ∀ z n h c : Bool, flagByte z n h c = fOf z n h c := by decide

/-- A bit of a byte is a digit of its number. -/
theorem toNat_bitAt (v : Byte) (i : Nat) : (bitAt v i).toNat = v.toNat / 2 ^ i % 2 := by
  rw [bitAt, BitVec.getLsbD, Nat.toNat_testBit]

/-- Bits 3:0 of two bytes agree where the numbers do modulo 16. -/
theorem and_0F_eq_iff (v w : Byte) : v &&& 15#8 = w &&& 15#8 ↔ v.toNat % 16 = w.toNat % 16 := by
  rw [← BitVec.toNat_inj, BitVec.toNat_and, BitVec.toNat_and, BitVec.toNat_ofNat,
    Nat.and_two_pow_sub_one_eq_mod _ 4, Nat.and_two_pow_sub_one_eq_mod _ 4]

/-- A bit is told by its digit. -/
theorem bitAt_eq_of_toNat {v : Byte} {i : Nat} {b : Bool} (h : v.toNat / 2 ^ i % 2 = b.toNat) : bitAt v i = b := by
  rw [← toNat_bitAt] at h
  cases b with
  | false => exact Bool.toNat_eq_zero.mp h
  | true => exact Bool.toNat_eq_one.mp h

/-- The statements' byte with four flags given has those flags. -/
theorem bitAt_fWith (v : Byte) (z n h c : Bool) :
    bitAt (fWith v z n h c) 7 = z ∧ bitAt (fWith v z n h c) 6 = n ∧ bitAt (fWith v z n h c) 5 = h ∧
      bitAt (fWith v z n h c) 4 = c := by
  have hz := z.toNat_le
  have hn := n.toNat_le
  have hh := h.toNat_le
  have hc := c.toNat_le
  refine ⟨bitAt_eq_of_toNat ?_, bitAt_eq_of_toNat ?_, bitAt_eq_of_toNat ?_, bitAt_eq_of_toNat ?_⟩ <;>
    rw [fWith, BitVec.toNat_ofNat] <;> omega

/-- It keeps bits 3:0 of the old byte. -/
theorem fWith_and_0F (v : Byte) (z n h c : Bool) : fWith v z n h c &&& 15#8 = v &&& 15#8 := by
  rw [and_0F_eq_iff, fWith, BitVec.toNat_ofNat]
  omega

/-- A byte with bits 3:0 of `old` is `old` with that byte's four flags. -/
theorem eq_fWith_bitAt {v old : Byte} (hlow : v &&& 15#8 = old &&& 15#8) :
    v = fWith old (bitAt v 7) (bitAt v 6) (bitAt v 5) (bitAt v 4) := by
  rw [and_0F_eq_iff] at hlow
  have hlt := v.isLt
  apply BitVec.eq_of_toNat_eq
  rw [fWith, ← hlow, BitVec.toNat_ofNat]
  simp only [toNat_bitAt]
  omega

/-- Writing one flag in the statements' byte is writing that flag's argument. -/
theorem putBit_fWith (v : Byte) (z n h c : Bool) (f : Flag) (b : Bool) :
    putBit (fWith v z n h c) (flagBit f) b =
      fWith v (if f = .z then b else z) (if f = .n then b else n) (if f = .h then b else h) (if f = .c then b else c) := by
  have hlow : putBit (fWith v z n h c) (flagBit f) b &&& 15#8 = v &&& 15#8 := by
    rw [putBit_and_0F _ _ _ (four_le_flagBit f) (flagBit_lt f), fWith_and_0F]
  obtain ⟨hz, hn, hh, hc⟩ := bitAt_fWith v z n h c
  rw [eq_fWith_bitAt hlow]
  simp only [bitAt_putBit _ _ _ _ (flagBit_lt f), hz, hn, hh, hc]
  cases f <;> rfl

/-! ## Writes of `A` and `F` in the statements' terms -/

/-- `F` with the four flags as they are. -/
theorem fWith_flag (s : State) : fWith (s.get8 .f) (s.flag .z) (s.flag .n) (s.flag .h) (s.flag .c) = s.get8 .f :=
  (eq_fWith_bitAt rfl).symm

/-- A state with its own `A` and `F`, by the four flags. -/
theorem eq_withAF_fWith (s : State) :
    s = withAF s (s.get8 .a) (fWith (s.get8 .f) (s.flag .z) (s.flag .n) (s.flag .h) (s.flag .c)) := by
  rw [fWith_flag, withAF, State.get8, State.get8, mkWord_hiByte_loByte]

theorem set8_a_eq (s : State) (v : Byte) :
    s.set8 .a v = withAF s v (fWith (s.get8 .f) (s.flag .z) (s.flag .n) (s.flag .h) (s.flag .c)) := by
  rw [fWith_flag]
  rfl

theorem setFlag_withAF (s : State) (a v : Byte) (z n h c : Bool) (f : Flag) (b : Bool) :
    (withAF s a (fWith v z n h c)).setFlag f b = withAF s a
      (fWith v (if f = .z then b else z) (if f = .n then b else n) (if f = .h then b else h) (if f = .c then b else c)) := by
  rw [← putBit_fWith, State.setFlag, withAF, hiByte_mkWord, loByte_mkWord]
  rfl

theorem setFlag_eq_withAF (s : State) (f : Flag) (b : Bool) :
    s.setFlag f b = withAF s (s.get8 .a) (fWith (s.get8 .f) (if f = .z then b else s.flag .z)
      (if f = .n then b else s.flag .n) (if f = .h then b else s.flag .h) (if f = .c then b else s.flag .c)) := by
  rw [← setFlag_withAF, ← eq_withAF_fWith]

theorem setFlags_eq_withF (s : State) (z n h c : Bool) : s.setFlags z n h c = withF s (fOf z n h c) := by
  rw [← flagByte_eq_fOf, ← flagByte_and_F0]
  rfl

/-! ## The ALU in numbers (R120 to R122) -/

/-- A number narrowed to a byte is 0 where 256 divides it. -/
theorem ofNat_beq_zero (t : Nat) : (BitVec.ofNat 8 t == 0) = decide (t % 256 = 0) := by
  rw [beq_eq_decide]
  exact decide_eq_decide.mpr BitVec.toNat_inj.symm

theorem add8_eq (a b : Byte) (cin : Bool) :
    add8 a b cin =
      { res := BitVec.ofNat 8 (a.toNat + b.toNat + cin.toNat)
        z := decide ((a.toNat + b.toNat + cin.toNat) % 256 = 0)
        n := false
        h := decide (a.toNat % 16 + b.toNat % 16 + cin.toNat > 15)
        c := decide (a.toNat + b.toNat + cin.toNat > 255) } := by
  rw [← ofNat_beq_zero]
  rfl

/-- A difference with a borrow is taken from 512 more, which is 0 modulo 256. -/
theorem sub_bitByte_eq (a b : Byte) (cin : Bool) :
    a - b - bitByte cin = BitVec.ofNat 8 (a.toNat + 512 - b.toNat - cin.toNat) := by
  have hbit : (bitByte cin).toNat = cin.toNat := by cases cin <;> rfl
  have hle := cin.toNat_le
  apply BitVec.eq_of_toNat_eq
  rw [BitVec.toNat_sub, BitVec.toNat_sub, BitVec.toNat_ofNat, hbit]
  omega

theorem sub8_eq (a b : Byte) (cin : Bool) :
    sub8 a b cin =
      { res := BitVec.ofNat 8 (a.toNat + 512 - b.toNat - cin.toNat)
        z := decide ((a.toNat + 512 - b.toNat - cin.toNat) % 256 = 0)
        n := true
        h := decide (b.toNat % 16 + cin.toNat > a.toNat % 16)
        c := decide (b.toNat + cin.toNat > a.toNat) } := by
  rw [← ofNat_beq_zero, ← sub_bitByte_eq]
  rfl

/-- Without a borrow into it the difference is 0 where the operands are equal. -/
theorem sub8_false_eq (a b : Byte) :
    sub8 a b false =
      { res := BitVec.ofNat 8 (a.toNat + 256 - b.toNat)
        z := decide (a.toNat = b.toNat)
        n := true
        h := decide (b.toNat % 16 > a.toNat % 16)
        c := decide (b.toNat > a.toNat) } := by
  have hres : BitVec.ofNat 8 (a.toNat + 512 - b.toNat) = BitVec.ofNat 8 (a.toNat + 256 - b.toNat) := by
    apply BitVec.eq_of_toNat_eq
    rw [BitVec.toNat_ofNat, BitVec.toNat_ofNat]
    omega
  have hz : (a.toNat + 512 - b.toNat) % 256 = 0 ↔ a.toNat = b.toNat := by omega
  rw [sub8_eq, ← decide_eq_decide.mpr hz, ← hres]
  rfl

/-- The AND is 0 where no bit is 1 in both operands. -/
theorem and_beq_zero (a b : Byte) :
    (a &&& b == 0) = (List.range 8).all fun i => !(a.getLsbD i && b.getLsbD i) := by
  rw [Bool.eq_iff_iff, beq_iff_eq, List.all_eq_true]
  simp only [List.mem_range, Bool.not_eq_true', ← BitVec.getLsbD_and]
  refine ⟨fun h i _ => ?_, fun h => BitVec.eq_of_getLsbD_eq fun i hi => ?_⟩
  · rw [h]
    exact BitVec.getLsbD_zero
  · rw [h i hi]
    exact BitVec.getLsbD_zero.symm

theorem xor_beq_zero (a b : Byte) : (a ^^^ b == 0) = decide (a = b) := by
  rw [beq_eq_decide]
  exact decide_eq_decide.mpr BitVec.xor_eq_zero_iff

theorem or_beq_zero (a b : Byte) : (a ||| b == 0) = decide (a = 0 ∧ b = 0) := by
  rw [beq_eq_decide]
  exact decide_eq_decide.mpr BitVec.or_eq_zero_iff

theorem inc8_eq (v : Byte) :
    inc8 v =
      { res := BitVec.ofNat 8 (v.toNat + 1)
        z := decide (v.toNat = 255)
        n := false
        h := decide (v.toNat % 16 = 15)
        c := decide (v.toNat = 255) } := by
  have hlt := v.isLt
  have hz : (v.toNat + 1) % 256 = 0 ↔ v.toNat = 255 := by omega
  have hh : v.toNat % 16 + 1 > 15 ↔ v.toNat % 16 = 15 := by omega
  have hc : v.toNat + 1 > 255 ↔ v.toNat = 255 := by omega
  rw [inc8, add8_eq, AluOut.mk.injEq]
  exact ⟨rfl, decide_eq_decide.mpr hz, rfl, decide_eq_decide.mpr hh, decide_eq_decide.mpr hc⟩

theorem dec8_eq (v : Byte) :
    dec8 v =
      { res := BitVec.ofNat 8 (v.toNat + 255)
        z := decide (v.toNat = 1)
        n := true
        h := decide (v.toNat % 16 = 0)
        c := decide (v.toNat = 0) } := by
  have hh : 1 > v.toNat % 16 ↔ v.toNat % 16 = 0 := by omega
  have hc : 1 > v.toNat ↔ v.toNat = 0 := by omega
  rw [dec8, sub8_false_eq, AluOut.mk.injEq]
  exact ⟨rfl, rfl, rfl, decide_eq_decide.mpr hh, decide_eq_decide.mpr hc⟩

/-! ## The ALU block (R124) -/

/-- The nine forms of each operation, as its statement lists them. -/
def aluFormsOf (op : AluOp) (s : State) (k : Byte) : List AluForm :=
  match op with
  | .add => aluForms .addAB .addAC .addAD .addAE .addAH .addAL .addAA .addAAtHl (.addAD8 k) s k
  | .adc => aluForms .adcAB .adcAC .adcAD .adcAE .adcAH .adcAL .adcAA .adcAAtHl (.adcAD8 k) s k
  | .sub => aluForms .subB .subC .subD .subE .subH .subL .subA .subAtHl (.subD8 k) s k
  | .sbc => aluForms .sbcAB .sbcAC .sbcAD .sbcAE .sbcAH .sbcAL .sbcAA .sbcAAtHl (.sbcAD8 k) s k
  | .and => aluForms .andB .andC .andD .andE .andH .andL .andA .andAtHl (.andD8 k) s k
  | .xor => aluForms .xorB .xorC .xorD .xorE .xorH .xorL .xorA .xorAtHl (.xorD8 k) s k
  | .or => aluForms .orB .orC .orD .orE .orH .orL .orA .orAtHl (.orD8 k) s k
  | .cp => aluForms .cpB .cpC .cpD .cpE .cpH .cpL .cpA .cpAtHl (.cpD8 k) s k

/-- All of `F` as an ALU operation leaves it. -/
def fOfOut (o : AluOut) : Byte := fOf o.z o.n o.h o.c

/-- Each form operates on its operand byte and moves `pc` and `cycles` by its length and cost. -/
theorem exec_aluFormsOf (op : AluOp) (s : State) (k : Byte) :
    ∀ x ∈ aluFormsOf op s k, exec x.instr s = .next ((s.aluWrite op x.src).retire x.len x.cost) := by
  have hforms : (aluFormsOf op s k).map (fun x => exec x.instr s) =
      (aluFormsOf op s k).map fun x => .next ((s.aluWrite op x.src).retire x.len x.cost) := by
    cases op <;> rfl
  exact List.map_inj_left.mp hforms

/-- CP writes `F` and keeps `A` (R146). -/
theorem aluWrite_cp (s : State) (b : Byte) :
    s.aluWrite .cp b = withAF s (s.get8 .a) (fOfOut (alu .cp (s.get8 .a) b (s.flag .c))) :=
  setFlags_eq_withF s _ _ _ _

/-- Every operation but CP writes its result to `A`, and all of `F`. -/
theorem aluWrite_of_ne_cp (s : State) {op : AluOp} (hop : op ≠ .cp) (b : Byte) :
    s.aluWrite op b =
      withAF s (alu op (s.get8 .a) b (s.flag .c)).res (fOfOut (alu op (s.get8 .a) b (s.flag .c))) := by
  have hwrite (v : Byte) (o : AluOut) : (s.set8 .a v).setFlags o.z o.n o.h o.c = withAF s v (fOfOut o) := by
    rw [setFlags_eq_withF, withF, State.set8, hiByte_mkWord]
    rfl
  cases op with
  | cp => exact absurd rfl hop
  | _ => exact hwrite _ _

/-- A form of any operation but CP ends in the statements' state, with what `alu` computes. -/
theorem exec_aluForm_of_ne_cp {op : AluOp} (hop : op ≠ .cp) {s : State} {k : Byte} {x : AluForm}
    (hx : x ∈ aluFormsOf op s k) :
    exec x.instr s = .next (aluAfter s x (alu op (s.get8 .a) x.src (s.flag .c)).res
      (fOfOut (alu op (s.get8 .a) x.src (s.flag .c)))) := by
  rw [exec_aluFormsOf op s k x hx, aluWrite_of_ne_cp s hop]
  rfl

/-- Settles O8: the sum without a carry into it. -/
theorem addResultAndFlags : Obligations.AddResultAndFlags := by
  intro s k x hx
  rw [exec_aluForm_of_ne_cp (op := .add) (by decide) hx, alu, add8_eq]
  rfl

/-- Settles O9: the sum with the carry flag. -/
theorem adcResultAndFlags : Obligations.AdcResultAndFlags := by
  intro s k x hx
  rw [exec_aluForm_of_ne_cp (op := .adc) (by decide) hx, alu, add8_eq]
  rfl

/-- Settles O10: the difference without a borrow into it. -/
theorem subResultAndFlags : Obligations.SubResultAndFlags := by
  intro s k x hx
  rw [exec_aluForm_of_ne_cp (op := .sub) (by decide) hx, alu, sub8_false_eq]
  rfl

/-- Settles O11: the difference with the carry flag borrowed. -/
theorem sbcResultAndFlags : Obligations.SbcResultAndFlags := by
  intro s k x hx
  rw [exec_aluForm_of_ne_cp (op := .sbc) (by decide) hx, alu, sub8_eq]
  rfl

/-- Settles O12: the AND and its zero test. -/
theorem andResultAndFlags : Obligations.AndResultAndFlags := by
  intro s k x hx
  rw [exec_aluForm_of_ne_cp (op := .and) (by decide) hx, ← and_beq_zero]
  rfl

/-- Settles O13: the XOR and its zero test. -/
theorem xorResultAndFlags : Obligations.XorResultAndFlags := by
  intro s k x hx
  rw [exec_aluForm_of_ne_cp (op := .xor) (by decide) hx, ← xor_beq_zero]
  rfl

/-- Settles O14: the OR and its zero test. -/
theorem orResultAndFlags : Obligations.OrResultAndFlags := by
  intro s k x hx
  rw [exec_aluForm_of_ne_cp (op := .or) (by decide) hx, ← or_beq_zero]
  rfl

/-- Settles O15: the flags of a difference without a borrow into it, and `A` as it was. -/
theorem cpFlagsOnly : Obligations.CpFlagsOnly := by
  intro s k x hx
  rw [exec_aluFormsOf .cp s k x hx, aluWrite_cp, alu, sub8_false_eq]
  rfl

/-! ## INC and DEC (R123, R149 to R152) -/

/-- `F` after an INC or DEC that computed `o`: bits 3:0 as before, and C by the build's `INCDEC_CARRY` (R123). -/
def incDecF (s : State) (o : AluOut) : Byte :=
  fWith (s.get8 .f) o.z o.n o.h (if s.build.incDecCarry = .preserve then s.flag .c else o.c)

theorem incDecFlags_eq_withF (s : State) (o : AluOut) : s.incDecFlags o = withF s (incDecF s o) := by
  have hcarry : s.incDecCarry o.c = if s.build.incDecCarry = .preserve then s.flag .c else o.c := by
    rw [State.incDecCarry]
    cases s.build.incDecCarry <;> rfl
  rw [State.incDecFlags, setFlag_eq_withAF s, hcarry]
  simp only [setFlag_withAF, reduceCtorEq, if_true, if_false]
  rfl

/-- A register form writes its register and the flags (R149, R151). -/
theorem stepReg_eq (f : Byte → AluOut) {r : Reg8} (hr : r ≠ .f) (s : State) :
    stepReg f r s = past (withF (s.set8 r (f (s.get8 r)).res) (incDecF s (f (s.get8 r)))) 1 1 := by
  have hf (v : Byte) : (s.set8 r v).get8 .f = s.get8 .f := by rw [get8_set8, if_neg hr.symm]
  rw [stepReg, incDecFlags_eq_withF, incDecF, State.flag, hf, set8_build]
  rfl

/-- The form of the byte at HL stores the result and writes the flags (R150, R152). -/
theorem runsStoringByte_stepMem {i : Instr} {f : Byte → AluOut} {s : State} (hexec : exec i s = .next (stepMem f s)) :
    RunsStoringByte i s (past (withF s (incDecF s (f (s.readByte s.hl)))) 1 3) s.hl (f (s.readByte s.hl)).res := by
  refine ⟨_, hexec, storesByte_writeByte s _ _, ?_⟩
  rw [stepMem, incDecFlags_eq_withF, writeByte_frame]
  rfl

/-- INC r (R149). -/
def incRegForms : List (Instr × Reg8) :=
  [(.incB, .b), (.incC, .c), (.incD, .d), (.incE, .e), (.incH, .h), (.incL, .l), (.incA, .a)]

/-- DEC r (R151). -/
def decRegForms : List (Instr × Reg8) :=
  [(.decB, .b), (.decC, .c), (.decD, .d), (.decE, .e), (.decH, .h), (.decL, .l), (.decA, .a)]

theorem exec_incRegForms (s : State) : ∀ x ∈ incRegForms, exec x.1 s = .next (stepReg inc8 x.2 s) :=
  have hforms : incRegForms.map (fun x => exec x.1 s) = incRegForms.map fun x => .next (stepReg inc8 x.2 s) := rfl
  List.map_inj_left.mp hforms

theorem exec_decRegForms (s : State) : ∀ x ∈ decRegForms, exec x.1 s = .next (stepReg dec8 x.2 s) :=
  have hforms : decRegForms.map (fun x => exec x.1 s) = decRegForms.map fun x => .next (stepReg dec8 x.2 s) := rfl
  List.map_inj_left.mp hforms

theorem ne_f_of_mem_incRegForms : ∀ x ∈ incRegForms, x.2 ≠ .f := by decide

theorem ne_f_of_mem_decRegForms : ∀ x ∈ decRegForms, x.2 ≠ .f := by decide

/-- Settles O16: a register form's state, with INC's and DEC's flags in numbers. -/
theorem incDecRegister : Obligations.IncDecRegister := by
  refine fun s => ⟨fun x hx => ?_, fun x hx => ?_⟩
  · rw [exec_incRegForms s x hx, stepReg_eq inc8 (ne_f_of_mem_incRegForms x hx), inc8_eq]
    rfl
  · rw [exec_decRegForms s x hx, stepReg_eq dec8 (ne_f_of_mem_decRegForms x hx), dec8_eq]
    rfl

/-- Settles O17: the memory form's state, with INC's and DEC's flags in numbers. -/
theorem incDecMemory : Obligations.IncDecMemory := by
  intro s
  have hinc := runsStoringByte_stepMem (i := .incAtHl) (f := inc8) (s := s) rfl
  have hdec := runsStoringByte_stepMem (i := .decAtHl) (f := dec8) (s := s) rfl
  rw [inc8_eq] at hinc
  rw [dec8_eq] at hdec
  exact ⟨hinc, hdec⟩

/-! ## DAA (R153) -/

/-- A byte raised where a condition holds, in numbers. -/
theorem toNat_ite_add (p : Prop) [Decidable p] (v d : Byte) :
    (if p then v + d else v).toNat = (v.toNat + if p then d.toNat else 0) % 256 := by
  have hlt := v.isLt
  split
  · exact BitVec.toNat_add ..
  · omega

/-- A byte lowered where a condition holds, in numbers. -/
theorem toNat_ite_sub (p : Prop) [Decidable p] (v d : Byte) :
    (if p then v - d else v).toNat = (v.toNat + 256 - if p then d.toNat else 0) % 256 := by
  have hlt := v.isLt
  have hd := d.isLt
  split
  · rw [BitVec.toNat_sub]
    omega
  · omega

/-- The first correction leaves the low nibble alone, so the second tests that of `A`. -/
theorem lowNibble_ite_add_0x60 (p : Prop) [Decidable p] (v : Byte) :
    lowNibble (if p then v + 0x60 else v) = v.toNat % 16 := by
  rw [lowNibble, toNat_ite_add]
  split
  · have hd : (0x60 : Byte).toNat = 96 := rfl
    omega
  · omega

/-- The adjusted accumulator: after a subtraction the corrections are subtracted, after an addition added. -/
theorem toNat_daa_res (a : Byte) (n h c : Bool) : (daa a n h c).res.toNat = daaRes a.toNat n h c := by
  have hhigh : (0x60 : Byte).toNat = 0x60 := rfl
  have hlow : (0x06 : Byte).toNat = 0x06 := rfl
  cases n with
  | true =>
    simp only [daa, daaRes, if_true, toNat_ite_sub, hhigh, hlow]
    split <;> split <;> omega
  | false =>
    simp only [daa, daaRes, Bool.false_eq_true, if_false, toNat_ite_add, lowNibble_ite_add_0x60, Bool.or_eq_true,
      decide_eq_true_eq, hhigh, hlow]
    omega

theorem daa_eq (a : Byte) (n h c : Bool) :
    daa a n h c =
      { res := BitVec.ofNat 8 (daaRes a.toNat n h c)
        z := decide (daaRes a.toNat n h c = 0)
        n := n
        h := false
        c := daaCarry a.toNat n c } := by
  have hlt : daaRes a.toNat n h c < 256 := by
    rw [← toNat_daa_res]
    exact BitVec.isLt _
  have hres : (daa a n h c).res = BitVec.ofNat 8 (daaRes a.toNat n h c) := by
    rw [← toNat_daa_res, BitVec.ofNat_toNat, BitVec.setWidth_eq]
  have hz : (BitVec.ofNat 8 (daaRes a.toNat n h c) == 0) = decide (daaRes a.toNat n h c = 0) := by
    rw [ofNat_beq_zero, Nat.mod_eq_of_lt hlt]
  rw [← hz, ← hres]
  cases n with
  | true =>
    rw [daaCarry, Bool.not_true, Bool.false_and, Bool.or_false]
    rfl
  | false => rfl

/-- Settles O18: DAA writes `A`, Z, H and C, with the adjusted value in numbers. -/
theorem daaAdjustsAccumulator : Obligations.DaaAdjustsAccumulator := by
  intro s
  have hrun : exec .daa s = .next (adjustDecimal s) := rfl
  rw [hrun, adjustDecimal, daa_eq, set8_a_eq]
  simp only [setFlag_withAF, reduceCtorEq, if_true, if_false]
  rfl

/-! ## CPL, SCF and CCF (R154 to R156) -/

theorem not_eq_ofNat_sub (v : Byte) : ~~~v = BitVec.ofNat 8 (255 - v.toNat) := by
  apply BitVec.eq_of_toNat_eq
  rw [BitVec.toNat_not, BitVec.toNat_ofNat]
  omega

theorem complementA_eq (s : State) :
    complementA s = past (withAF s (BitVec.ofNat 8 (255 - (s.get8 .a).toNat))
      (fWith (s.get8 .f) (s.flag .z) true true (s.flag .c))) 1 1 := by
  rw [complementA, not_eq_ofNat_sub, set8_a_eq]
  simp only [setFlag_withAF, reduceCtorEq, if_true, if_false]
  rfl

/-- SCF and CCF write the carry flag and clear N and H. -/
theorem writeCarry_eq (c : Bool) (s : State) :
    writeCarry c s = past (withF s (fWith (s.get8 .f) (s.flag .z) false false c)) 1 1 := by
  rw [writeCarry, setFlag_eq_withAF s]
  simp only [setFlag_withAF, reduceCtorEq, if_true, if_false]
  rfl

/-- Settles O19, from what CPL and a write of the carry flag do. -/
theorem complementAndCarryFlag : Obligations.ComplementAndCarryFlag := by
  refine fun s => ⟨?cpl, ?scf, ?ccf⟩
  case cpl => exact congrArg Host.Outcome.next (complementA_eq s)
  case scf => exact congrArg Host.Outcome.next (writeCarry_eq true s)
  case ccf => exact congrArg Host.Outcome.next (writeCarry_eq (!s.flag .c) s)

end Sys2Proof.Proofs
end

section
/-! The loads family: register copies, byte loads and stores with their addresses, the forms that step HL, immediates, and
the stack transfers. The lemmas before the theorems say once how an instruction list runs its form, how addresses and SP
read in the statements' numbers, and what each storing operation leaves. -/

namespace Sys2Proof.Proofs

open Machine Claims

/-! ## The forms of a list of instructions -/

/-- Listed instructions whose forms are one form at their operands run that form. -/
theorem exec_of_forms {α : Type} {l : List (Instr × α)} (form : α → Form)
    (hforms : l.map (fun x => formOf x.1) = l.map fun x => form x.2) (s : State) :
    ∀ x ∈ l, exec x.1 s = .next ((form x.2).run s) := by
  intro x hx
  rw [exec_form, List.map_inj_left.mp hforms x hx]

/-! ## Words and bytes in numbers -/

/-- A sum modulo 65536. -/
theorem word_add_ofNat (w : Word) (n : Nat) : w + BitVec.ofNat 16 n = BitVec.ofNat 16 (w.toNat + n) := by
  rw [BitVec.ofNat_add, BitVec.ofNat_toNat, BitVec.setWidth_eq]

/-- The new SP of a push: two less is 65534 more (R160). -/
theorem pushAddr_eq_ofNat (s : State) : s.pushAddr = BitVec.ofNat 16 (s.sp.toNat + 65534) := by
  rw [← word_add_ofNat, State.pushAddr, BitVec.sub_eq_add_neg]
  rfl

/-- The address of the LDH and `(C)` forms (R92). -/
theorem highPage_eq_ofNat (a : Byte) : highPage a = BitVec.ofNat 16 (0xFF00 + a.toNat) := by
  have hor : 2 ^ 8 * 0xFF + a.toNat = 2 ^ 8 * 0xFF ||| a.toNat := Nat.two_pow_add_eq_or_of_lt a.isLt 0xFF
  rw [show 0xFF00 + a.toNat = 0xFF00 ||| a.toNat from hor, BitVec.ofNat_or, BitVec.ofNat_toNat]
  rfl

/-- Bits 7:4 of a byte are its multiple of 16. -/
theorem and_F0_eq_ofNat (v : Byte) : v &&& 0xF0 = BitVec.ofNat 8 (v.toNat / 16 * 16) := by
  have hmask : (0xF0 : Byte) = BitVec.allOnes 8 <<< 4 := rfl
  rw [hmask, ← BitVec.shiftLeft_ushiftRight, ← BitVec.toNat_inj, BitVec.toNat_shiftLeft, BitVec.toNat_ushiftRight,
    Nat.shiftLeft_eq, Nat.shiftRight_eq_div_pow, BitVec.toNat_ofNat]

/-! ## Register copies, byte loads and immediates -/

/-- Settles O20: each form copies its source to its destination. -/
theorem loadRegisterFromRegister : Obligations.LoadRegisterFromRegister :=
  exec_of_forms (fun r : Reg8 × Reg8 => .copyReg r.1 r.2) rfl

/-- Settles O21: each form loads the byte at its address, of which LDH and the `(C)` form's is in the high page. -/
theorem loadRegisterFromMemory : Obligations.LoadRegisterFromMemory := by
  intro s a k
  rw [← highPage_eq_ofNat, ← highPage_eq_ofNat]
  exact ⟨exec_of_forms (.loadAt · .hl 1 2) rfl s, exec_form .ldAAtBc s, exec_form .ldAAtDe s,
    exec_form (.ldAAtA16 a) s, exec_form (.ldhAAtA8 k) s, exec_form .ldAAtC s⟩

/-- Settles O24: a register of either width takes the immediate, and SP takes HL. -/
theorem loadImmediate : Obligations.LoadImmediate := fun s k d =>
  ⟨exec_of_forms (.loadImm8 · k) rfl s, exec_form (.ldBcD16 d) s, exec_form (.ldDeD16 d) s, exec_form (.ldHlD16 d) s,
    exec_form (.ldSpD16 d) s, exec_form .ldSpHl s⟩

/-! ## Byte stores -/

/-- A byte store stores at its address and leaves every register (R164). -/
theorem runsStoringByte_storeByte {i : Instr} {s : State} {a : Word} {v : Byte} {len : Word} {m : Nat}
    (hexec : exec i s = .next (storeByte a v len m s)) : RunsStoringByte i s (past s len m) a v := by
  refine ⟨_, hexec, storesByte_writeByte s a v, ?_⟩
  rw [storeByte, writeByte_frame]
  rfl

/-- Settles O22: each form is a byte store at its address, of which LDH and the `(C)` form's is in the high page. -/
theorem storeByteToMemory : Obligations.StoreByteToMemory := by
  intro s a k
  rw [← highPage_eq_ofNat, ← highPage_eq_ofNat]
  refine ⟨fun x hx => ?_, ?_, ?_, ?_, ?_, ?_, ?_⟩ <;> apply runsStoringByte_storeByte
  · exact exec_of_forms (.storeAt .hl · 1 2) rfl s x hx
  · exact exec_form (.ldAtHlD8 k) s
  · exact exec_form .ldAtBcA s
  · exact exec_form .ldAtDeA s
  · exact exec_form (.ldAtA16A a) s
  · exact exec_form (.ldhAtA8A k) s
  · exact exec_form .ldAtCA s

/-! ## The forms that step HL (R171 to R174) -/

/-- The store is at the old HL, and HL moves whether or not it is refused. -/
theorem runsStoringByte_storeAStep {i : Instr} {s : State} {delta : Word}
    (hexec : exec i s = .next (storeAStep delta s)) :
    RunsStoringByte i s (past { s with hl := s.hl + delta } 1 2) s.hl (s.get8 .a) := by
  refine ⟨_, hexec, storesByte_writeByte s s.hl (s.get8 .a), ?_⟩
  rw [storeAStep, writeByte_frame]
  rfl

/-- Settles O23: the access is at the old HL, which then moves by 1 or by 65535. -/
theorem loadStoreSteppingHl : Obligations.LoadStoreSteppingHl := by
  intro s
  rw [← word_add_ofNat, ← word_add_ofNat]
  exact ⟨exec_form .ldAAtHlInc s, exec_form .ldAAtHlDec s, runsStoringByte_storeAStep (exec_form .ldAtHlIncA s),
    runsStoringByte_storeAStep (exec_form .ldAtHlDecA s)⟩

/-! ## Word stores and the stack (R160, R161) -/

/-- Settles O25: the instruction is a word write of SP. -/
theorem storeStackPointer : Obligations.StoreStackPointer := by
  intro s a
  have hexec : exec (.ldAtA16Sp a) s = .next (storeSp a s) := exec_form _ s
  refine ⟨_, hexec, storesWord_writeWord s a s.sp, ?_⟩
  rw [storeSp, writeWord_frame]
  rfl

/-- A push stores its word at the new SP (R160). -/
theorem storesWord_push16 (s : State) (v : Word) : StoresWord s (s.push16 v) s.pushAddr v :=
  storesWord_writeWord { s with sp := s.pushAddr } s.pushAddr v

/-- A push lowers SP by 2 and changes the memory and the stream besides at most. -/
theorem push16_frame (s : State) (v : Word) :
    s.push16 v = { s with sp := s.pushAddr, mem := (s.push16 v).mem, diag := (s.push16 v).diag } :=
  writeWord_frame { s with sp := s.pushAddr } s.pushAddr v

/-- Settles O27: each form is a push of its register. -/
theorem pushStoresPair : Obligations.PushStoresPair := by
  intro s x hx
  rw [← pushAddr_eq_ofNat]
  have hexec : exec x.1 s = .next (pushReg x.2 s) := exec_of_forms .pushReg rfl s x hx
  refine ⟨_, hexec, storesWord_push16 s (s.get16 x.2), ?_⟩
  rw [pushReg, push16_frame]
  rfl

/-- A pop raises SP by 2 (R161). -/
theorem dropWord_eq (s : State) : s.dropWord = { s with sp := BitVec.ofNat 16 (s.sp.toNat + 2) } := by
  rw [← word_add_ofNat]
  rfl

/-- POP AF writes both halves, `F` with bits 3:0 cleared (R187). -/
theorem popAf_eq (s : State) :
    popAf s = past { s with
      af := mkWord (s.readByte (s.sp + 1)) (BitVec.ofNat 8 ((s.readByte s.sp).toNat / 16 * 16)),
      sp := BitVec.ofNat 16 (s.sp.toNat + 2) } 1 3 := by
  rw [popAf, dropWord_eq, State.stackTop, State.readWord, hiByte_mkWord, loByte_mkWord, State.set8, State.set8,
    hiByte_mkWord, and_F0_eq_ofNat]
  rfl

/-- POP of BC, DE or HL takes the word at SP (R186). -/
theorem exec_popReg {i : Instr} {r : Reg16} (hform : formOf i = .popReg r) (s : State) :
    exec i s = .next (past (({ s with sp := BitVec.ofNat 16 (s.sp.toNat + 2) }).set16 r
      (mkWord (s.readByte (s.sp + 1)) (s.readByte s.sp))) 1 3) := by
  rw [exec_form, hform, Form.run, popReg, dropWord_eq]
  rfl

/-- Settles O28: the pair takes the word at SP, `F` its bits 7:4 alone, and SP moves. -/
theorem popLoadsPair : Obligations.PopLoadsPair := by
  refine fun s => ⟨exec_popReg (r := .bc) rfl s, exec_popReg (r := .de) rfl s, exec_popReg (r := .hl) rfl s, ?af⟩
  case af => exact (exec_form .popAf s).trans (congrArg Host.Outcome.next (popAf_eq s))

end Sys2Proof.Proofs
end

section
/-! The control-transfer family: jumps, calls, returns and restarts. The lemmas before the theorems say once how a
condition and a relative target read in the statements' terms, and what a push or a pop with a jump leaves. -/

namespace Sys2Proof.Proofs

open Machine Claims

/-! ## Conditions, targets and stack transfers in the statements' terms -/

/-- The model's condition is the statements' test of `F` (R200). -/
theorem cond_eq_holds (s : State) (cc : Cond) : s.cond cc = holds s cc := by
  cases cc <;> rfl

/-- A sum with a sign-extended byte is the signed sum modulo 65536. -/
theorem ofNat_add_sext16 (n : Nat) (e : Byte) : BitVec.ofNat 16 n + sext16 e = BitVec.ofInt 16 (n + e.toInt) := by
  rw [BitVec.ofInt_add, BitVec.ofInt_natCast]
  rfl

/-- A relative target is the fall-through address plus the signed byte (R201). -/
theorem relTarget_eq_ofInt (s : State) (e : Byte) :
    s.relTarget e = BitVec.ofInt 16 (s.pc.toNat + 2 + e.toInt) := by
  have hnext : s.pc + 2 = BitVec.ofNat 16 (s.pc.toNat + 2) := word_add_ofNat s.pc 2
  rw [State.relTarget, hnext, ofNat_add_sext16]
  rfl

/-- A push and a jump store the return address at the new SP and go to the target, refused or not (R160, R207). -/
theorem runsStoringWord_push16_jump {i : Instr} {s : State} {ret target : Word} {m : Nat}
    (hexec : exec i s = .next ((s.push16 ret).jump target m)) :
    RunsStoringWord i s (goes { s with sp := BitVec.ofNat 16 (s.sp.toNat + 65534) } target m)
      (BitVec.ofNat 16 (s.sp.toNat + 65534)) ret := by
  rw [← pushAddr_eq_ofNat]
  refine ⟨_, hexec, storesWord_push16 s ret, ?_⟩
  rw [push16_frame]
  rfl

/-- A pop and a jump go to the word at SP, with SP past it (R161, R209). -/
theorem dropWord_jump_stackTop (s : State) (m : Nat) :
    s.dropWord.jump s.stackTop m = goes { s with sp := BitVec.ofNat 16 (s.sp.toNat + 2) }
      (mkWord (s.readByte (s.sp + 1)) (s.readByte s.sp)) m := by
  rw [dropWord_eq]
  rfl

/-! ## Jumps -/

/-- Settles O29: the jump is to the relative target, and the conditional form's two paths are told by its condition. -/
theorem relativeJumps : Obligations.RelativeJumps := by
  intro s e
  rw [← relTarget_eq_ofInt]
  refine ⟨exec_form (.jrE8 e) s, fun x hx => ?_⟩
  have hexec : exec x.1 s = .next (jumpRelIf x.2 e s) := exec_of_forms (.jumpRelIf · e) rfl s x hx
  rw [hexec, jumpRelIf, cond_eq_holds]
  rfl

/-- Settles O30: JP goes to its word and JP HL to HL, and the conditional form's two paths are told by its condition. -/
theorem absoluteJumps : Obligations.AbsoluteJumps := by
  refine fun s a => ⟨exec_form (.jpA16 a) s, exec_form .jpHl s, fun x hx => ?_⟩
  have hexec : exec x.1 s = .next (jumpToIf x.2 a s) := exec_of_forms (.jumpToIf · a) rfl s x hx
  rw [hexec, jumpToIf, cond_eq_holds]
  rfl

/-! ## Calls, returns and restarts -/

/-- Settles O31: a call is a push of the fall-through address and a jump; the path not taken only falls through. -/
theorem callsPushTheReturnAddress : Obligations.CallsPushTheReturnAddress := by
  refine fun s a => ⟨runsStoringWord_push16_jump (exec_form (.callA16 a) s), fun x hx => ?_⟩
  have hexec : exec x.1 s = .next (callToIf x.2 a s) := exec_of_forms (.callToIf · a) rfl s x hx
  rw [callToIf, cond_eq_holds] at hexec
  split
  case isTrue htaken => exact runsStoringWord_push16_jump (hexec.trans (congrArg _ (if_pos htaken)))
  case isFalse hskipped => exact hexec.trans (congrArg _ (if_neg hskipped))

/-- Settles O32: a return is a pop and a jump; the path not taken only falls through. -/
theorem returnsPopTheTarget : Obligations.ReturnsPopTheTarget := by
  refine fun s => ⟨(exec_form .ret s).trans (congrArg _ (dropWord_jump_stackTop s 4)), fun x hx => ?_⟩
  have hexec : exec x.1 s = .next (returnPopIf x.2 s) := exec_of_forms .returnPopIf rfl s x hx
  rw [hexec, returnPopIf, cond_eq_holds, dropWord_jump_stackTop]
  rfl

/-- RST n with its target (R211). -/
def restartForms : List (Instr × Word) :=
  [(.rst00, 0x0000), (.rst08, 0x0008), (.rst10, 0x0010), (.rst18, 0x0018),
   (.rst20, 0x0020), (.rst28, 0x0028), (.rst30, 0x0030), (.rst38, 0x0038)]

theorem exec_restartForms (s : State) :
    ∀ x ∈ restartForms, exec x.1 s = .next ((s.push16 (s.pc + 1)).jump x.2 4) :=
  have hforms : restartForms.map (fun x => exec x.1 s) =
      restartForms.map fun x => .next ((s.push16 (s.pc + 1)).jump x.2 4) := rfl
  List.map_inj_left.mp hforms

/-- Settles O33: each restart is a push of the next address and a jump to its target. -/
theorem restartsCallFixedTargets : Obligations.RestartsCallFixedTargets :=
  fun s x hx => runsStoringWord_push16_jump (exec_restartForms s x hx)

end Sys2Proof.Proofs
end

section
/-! The 16-bit arithmetic family: INC and DEC of a pair, ADD HL,rr, and the sum of SP with a signed byte. The lemmas before
each theorem say once what the shared operation writes in the statements' terms. -/

namespace Sys2Proof.Proofs

open Machine Claims

/-! ## SP plus a signed byte (R230) -/

/-- The model's sum of SP and a sign-extended byte is the signed sum modulo 65536. -/
theorem addSp_res_eq_ofInt (sp : Word) (e : Byte) : (addSp sp e).res = BitVec.ofInt 16 (sp.toNat + e.toInt) := by
  rw [← ofNat_add_sext16, BitVec.ofNat_toNat, BitVec.setWidth_eq]
  rfl

/-- LD HL,SP+e8 writes HL and all of `F` (R184). -/
theorem loadHlSpPlus_eq (e : Byte) (s : State) :
    loadHlSpPlus e s = past (withF { s with hl := BitVec.ofInt 16 (s.sp.toNat + e.toInt) }
      (fOf false false (addSp s.sp e).h (addSp s.sp e).c)) 2 3 := by
  rw [loadHlSpPlus, setFlags_eq_withF, addSp_res_eq_ofInt]
  rfl

/-- ADD SP,e8 writes SP and all of `F` (R234). -/
theorem addToSp_eq (e : Byte) (s : State) :
    addToSp e s = past (withF { s with sp := BitVec.ofInt 16 (s.sp.toNat + e.toInt) }
      (fOf false false (addSp s.sp e).h (addSp s.sp e).c)) 2 4 := by
  rw [addToSp, setFlags_eq_withF, addSp_res_eq_ofInt]
  rfl

/-- Settles O26: both instructions write the signed sum, and the flags of `addSp`, which are sums of unsigned low parts. -/
theorem stackPointerPlusSignedByte : Obligations.StackPointerPlusSignedByte := fun s e =>
  ⟨(exec_form (.ldHlSpE8 e) s).trans (congrArg Host.Outcome.next (loadHlSpPlus_eq e s)),
    (exec_form (.addSpE8 e) s).trans (congrArg Host.Outcome.next (addToSp_eq e s))⟩

/-! ## ADD HL,rr (R233) -/

/-- ADD HL,rr writes HL and the flags N, H and C, from HL and the pair before it. -/
theorem addToHl_eq (r : Reg16) (s : State) :
    addToHl r s = past (withF { s with hl := (addHl s.hl (s.get16 r)).res }
      (fWith (s.get8 .f) (s.flag .z) false (addHl s.hl (s.get16 r)).h (addHl s.hl (s.get16 r)).c)) 1 2 := by
  rw [addToHl, setFlag_eq_withAF (s.set16 .hl _)]
  simp only [setFlag_withAF, reduceCtorEq, if_true, if_false]
  rfl

/-- Settles O35: each form adds its pair to HL, and `addHl` states the sum and its two carries in numbers. -/
theorem addPairToHl : Obligations.AddPairToHl := by
  intro s x hx
  have hexec : exec x.1 s = .next (addToHl x.2 s) := exec_of_forms .addToHl rfl s x hx
  rw [hexec, addToHl_eq]
  rfl

/-! ## INC rr and DEC rr (R231, R232) -/

/-- A form that steps a pair adds its delta modulo 65536 and writes no flag; one less is 65535 more. -/
theorem exec_stepPair {i : Instr} {n : Nat} {r : Reg16} (hform : formOf i = .stepPair (BitVec.ofNat 16 n) r) (s : State) :
    exec i s = .next (past (s.set16 r (BitVec.ofNat 16 ((s.get16 r).toNat + n))) 1 2) := by
  rw [exec_form, hform, ← word_add_ofNat]
  rfl

/-- Settles O34: INC steps its pair by 1 and DEC by 65535, which is -1 modulo 65536. -/
theorem incDecPair : Obligations.IncDecPair := fun s =>
  ⟨exec_stepPair (r := .bc) rfl s, exec_stepPair (r := .de) rfl s, exec_stepPair (r := .hl) rfl s,
    exec_stepPair (r := .sp) rfl s, exec_stepPair (r := .bc) rfl s, exec_stepPair (r := .de) rfl s,
    exec_stepPair (r := .hl) rfl s, exec_stepPair (r := .sp) rfl s⟩

end Sys2Proof.Proofs
end

section
/-! The rotate, shift and bit family: the accumulator rotates, the secondary rotates and shifts, BIT, RES and SET. The
lemmas before the theorems say once how each shift function and each write of one bit reads in the statements' numbers,
and what each shared operation writes in the statements' terms. -/

namespace Sys2Proof.Proofs

open Machine Claims

/-! ## The shift functions in numbers (R250) -/

/-- The OR of a multiple of `2^i` and a byte below `2^i` is their sum. -/
theorem toNat_or_of_dvd_of_lt {x y : Byte} (i : Nat) (hx : 2 ^ i ∣ x.toNat) (hy : y.toNat < 2 ^ i) :
    (x ||| y).toNat = x.toNat + y.toNat := by
  obtain ⟨a, ha⟩ := hx
  rw [BitVec.toNat_or, ha, Nat.two_pow_add_eq_or_of_lt hy]

theorem toNat_byte_shiftLeft (v : Byte) (i : Nat) : (v <<< i).toNat = v.toNat * 2 ^ i % 256 := by
  rw [BitVec.toNat_shiftLeft, Nat.shiftLeft_eq]

theorem toNat_byte_ushiftRight (v : Byte) (i : Nat) : (v >>> i).toNat = v.toNat / 2 ^ i := by
  rw [BitVec.toNat_ushiftRight, Nat.shiftRight_eq_div_pow]

theorem toNat_bitByte (b : Bool) : (bitByte b).toNat = b.toNat := by
  cases b <;> rfl

/-- A rotate to the left: a bit enters below the seven that move up. -/
theorem toNat_shiftLeft_one_or_bitByte (v : Byte) (b : Bool) :
    (v <<< 1 ||| bitByte b).toNat = (2 * v.toNat + b.toNat) % 256 := by
  have hb := b.toNat_le
  have hshift := toNat_byte_shiftLeft v 1
  rw [toNat_or_of_dvd_of_lt 1 (by omega) (by rw [toNat_bitByte]; omega), hshift, toNat_bitByte]
  omega

/-- A rotate to the right: a bit enters above the seven that move down. -/
theorem toNat_ushiftRight_one_or_bitByte (v : Byte) (b : Bool) :
    (v >>> 1 ||| bitByte b <<< 7).toNat = v.toNat / 2 + 128 * b.toNat := by
  have hv := v.isLt
  have hb := b.toNat_le
  have hlow := toNat_byte_ushiftRight v 1
  have hhigh := toNat_byte_shiftLeft (bitByte b) 7
  rw [toNat_bitByte] at hhigh
  rw [BitVec.or_comm, toNat_or_of_dvd_of_lt 7 (by omega) (by omega)]
  omega

/-- Bit 7 in its place. -/
theorem and_80_eq (v : Byte) : v &&& 128#8 = bitByte (bitAt v 7) <<< 7 := by
  have hmask : v &&& 128#8 = if bitAt v 7 then 128#8 else 0 := BitVec.and_twoPow v 7
  rw [hmask]
  cases bitAt v 7 <;> rfl

/-- The two nibbles exchanged. -/
theorem toNat_swap (v : Byte) : (v <<< 4 ||| v >>> 4).toNat = 16 * (v.toNat % 16) + v.toNat / 16 := by
  have hv := v.isLt
  have hhigh := toNat_byte_shiftLeft v 4
  have hlow := toNat_byte_ushiftRight v 4
  rw [toNat_or_of_dvd_of_lt 4 (by omega) (by omega)]
  omega

theorem toNat_bitAt_seven (v : Byte) : (bitAt v 7).toNat = v.toNat / 128 := by
  have hv := v.isLt
  rw [toNat_bitAt]
  omega

theorem toNat_bitAt_zero (v : Byte) : (bitAt v 0).toNat = v.toNat % 2 := by
  rw [toNat_bitAt, Nat.pow_zero, Nat.div_one]

/-- Each function's result: a rotate by the bit that enters, or a plain shift; SRA is a rotate by the sign bit. -/
theorem toNat_shift_res (op : ShiftOp) (v : Byte) (cin : Bool) :
    (shift op v cin).res.toNat = (shifted op v.toNat cin).1 := by
  cases op with
  | rlc =>
    have hrotate := toNat_shiftLeft_one_or_bitByte v (bitAt v 7)
    rw [toNat_bitAt_seven] at hrotate
    exact hrotate
  | rrc =>
    have hrotate := toNat_ushiftRight_one_or_bitByte v (bitAt v 0)
    rw [toNat_bitAt_zero] at hrotate
    exact hrotate
  | rl => exact toNat_shiftLeft_one_or_bitByte v cin
  | rr => exact toNat_ushiftRight_one_or_bitByte v cin
  | sla =>
    have hshift := toNat_byte_shiftLeft v 1
    rw [Nat.mul_comm] at hshift
    exact hshift
  | sra =>
    have hrotate := toNat_ushiftRight_one_or_bitByte v (bitAt v 7)
    rw [← and_80_eq, toNat_bitAt_seven] at hrotate
    exact hrotate
  | swap => exact toNat_swap v
  | srl => exact toNat_byte_ushiftRight v 1

theorem bitAt_seven_eq (v : Byte) : bitAt v 7 = decide (v.toNat ≥ 128) := BitVec.msb_eq_decide v

theorem bitAt_zero_eq (v : Byte) : bitAt v 0 = decide (v.toNat % 2 = 1) := Nat.testBit_zero v.toNat

/-- Each function's carry: the bit that leaves at the top or at the bottom, and none for SWAP. -/
theorem shift_co (op : ShiftOp) (v : Byte) (cin : Bool) : (shift op v cin).co = shiftCarry op v cin := by
  cases op with
  | rlc | rl | sla => exact bitAt_seven_eq v
  | rrc | rr | sra | srl => exact bitAt_zero_eq v
  | swap => rfl

theorem shift_res (op : ShiftOp) (v : Byte) (cin : Bool) : (shift op v cin).res = shiftRes op v cin := by
  rw [shiftRes, ← toNat_shift_res, BitVec.ofNat_toNat, BitVec.setWidth_eq]

/-- The zero test of a shift, on the number. -/
theorem shift_res_beq_zero (op : ShiftOp) (v : Byte) (cin : Bool) :
    ((shift op v cin).res == 0) = decide ((shifted op v.toNat cin).1 = 0) := by
  rw [← toNat_shift_res, beq_eq_decide]
  exact decide_eq_decide.mpr BitVec.toNat_inj.symm

/-! ## The rotates and shifts (R251 to R271) -/

/-- A secondary shift's flags, in the statements' byte. -/
theorem shiftFlags_shift_eq_withF (s : State) (op : ShiftOp) (v : Byte) (cin : Bool) :
    s.shiftFlags (shift op v cin) =
      withF s (fOf (decide ((shifted op v.toNat cin).1 = 0)) false false (shiftCarry op v cin)) := by
  rw [State.shiftFlags, setFlags_eq_withF, shift_res_beq_zero, shift_co]

/-- An accumulator rotate writes `A` and all of `F`. -/
theorem rotateA_eq (op : ShiftOp) (s : State) :
    rotateA op s = past (withAF s (shiftRes op (s.get8 .a) (s.flag .c))
      (fOf false false false (shiftCarry op (s.get8 .a) (s.flag .c)))) 1 1 := by
  rw [rotateA, setFlags_eq_withF, shift_res, shift_co, withF, State.set8, hiByte_mkWord]
  rfl

/-- Settles O36: each form is an accumulator rotate by its function. -/
theorem accumulatorRotates : Obligations.AccumulatorRotates := by
  intro s x hx
  have hexec : exec x.1 s = .next (rotateA x.2 s) := exec_of_forms .rotateA rfl s x hx
  rw [hexec, rotateA_eq]

/-- Settles O37: each form writes its register and then all of `F`. -/
theorem shiftsOfRegisters : Obligations.ShiftsOfRegisters := by
  intro s x hx
  have hexec : exec x.1 s = .next (shiftReg x.2.1 x.2.2 s) :=
    exec_of_forms (fun r : ShiftOp × Reg8 => .shiftReg r.1 r.2) rfl s x hx
  rw [hexec, shiftReg, shiftFlags_shift_eq_withF, shift_res]
  rfl

/-- Settles O38: each form is a byte store at HL, and writes the flags whether or not it is refused. -/
theorem shiftsOfMemory : Obligations.ShiftsOfMemory := by
  intro s x hx
  have hexec : exec x.1 s = .next (shiftMem x.2 s) := exec_of_forms .shiftMem rfl s x hx
  rw [← shift_res]
  refine ⟨_, hexec, storesByte_writeByte s s.hl _, ?_⟩
  rw [shiftMem, shiftFlags_shift_eq_withF, writeByte_frame]
  rfl

/-! ## BIT (R272, R273) -/

/-- The flags of BIT: Z, N and H written, C and bits 3:0 kept. -/
theorem bitFlags_eq_withF (s : State) (set : Bool) :
    s.bitFlags set = withF s (fWith (s.get8 .f) (!set) false true (s.flag .c)) := by
  rw [State.bitFlags, setFlag_eq_withAF s]
  simp only [setFlag_withAF, reduceCtorEq, if_true, if_false]
  rfl

/-- Settles O39: each form writes the flags of BIT for its bit, and nothing else. -/
theorem bitTests : Obligations.BitTests := by
  refine fun s => ⟨fun x hx => ?reg, fun x hx => ?mem⟩
  case reg =>
    have hexec : exec x.1 s = .next (testBitReg x.2.1 x.2.2 s) :=
      exec_of_forms (fun b : Nat × Reg8 => .testBitReg b.1 b.2) rfl s x hx
    rw [hexec, testBitReg, bitFlags_eq_withF]
    rfl
  case mem =>
    have hexec : exec x.1 s = .next (testBitMem x.2 s) := exec_of_forms .testBitMem rfl s x hx
    rw [hexec, testBitMem, bitFlags_eq_withF]
    rfl

/-! ## One bit of a byte in numbers (R274, R276) -/

theorem and_bitMask (v : Byte) (b : Nat) : v &&& bitMask b = if v.getLsbD b then bitMask b else 0 :=
  BitVec.and_twoPow v b

theorem bitMask_eq_ofNat (b : Nat) : bitMask b = BitVec.ofNat 8 (2 ^ b) := by
  apply BitVec.eq_of_toNat_eq
  rw [BitVec.toNat_ofNat]
  exact BitVec.toNat_twoPow 8 b

/-- A byte is what a mask leaves out of it and what the mask keeps, and the two have no bit in common. -/
theorem toNat_and_not_add_toNat_and (v m : Byte) : (v &&& ~~~m).toNat + (v &&& m).toNat = v.toNat := by
  have hdisjoint : v &&& ~~~m &&& (v &&& m) = 0#8 := by
    ext i hi
    grind
  have hunion : v &&& ~~~m ||| v &&& m = v := by
    ext i hi
    grind
  rw [← BitVec.toNat_add_of_and_eq_zero hdisjoint, BitVec.add_eq_or_of_and_eq_zero _ _ hdisjoint, hunion]

/-- What the mask of bit `b` keeps, in numbers. -/
theorem toNat_and_bitMask (v : Byte) (b : Nat) : (v &&& bitMask b).toNat = if v.getLsbD b then 2 ^ b else 0 := by
  have hv := v.isLt
  rw [and_bitMask]
  split
  case isTrue hbit =>
    have hle : 2 ^ b ≤ v.toNat := Nat.ge_two_pow_of_testBit hbit
    rw [bitMask_eq_ofNat, BitVec.toNat_ofNat, Nat.mod_eq_of_lt (by omega)]
  case isFalse => rfl

/-- Clearing a bit takes `2^b` away where the bit was 1. -/
theorem and_not_bitMask_eq (v : Byte) (b : Nat) : v &&& ~~~bitMask b = bitCleared v b := by
  have hsum := toNat_and_not_add_toNat_and v (bitMask b)
  rw [bitCleared, ← toNat_and_bitMask, ← Nat.eq_sub_of_add_eq hsum, BitVec.ofNat_toNat, BitVec.setWidth_eq]

/-- A byte that holds all of a mask is not changed by raising it. -/
theorem or_eq_self_of_and_eq {v m : Byte} (h : v &&& m = m) : v ||| m = v := by
  rw [← h]
  ext i hi
  grind

/-- Raising a bit adds `2^b` where the bit was 0. -/
theorem or_bitMask_eq (v : Byte) (b : Nat) : v ||| bitMask b = bitRaised v b := by
  have hkept := and_bitMask v b
  rw [bitRaised, BitVec.ofNat_add, BitVec.ofNat_toNat, BitVec.setWidth_eq]
  split
  case isTrue hbit =>
    rw [if_pos hbit] at hkept
    rw [or_eq_self_of_and_eq hkept, BitVec.add_zero]
  case isFalse hbit =>
    rw [if_neg hbit] at hkept
    rw [← BitVec.add_eq_or_of_and_eq_zero _ _ hkept, bitMask_eq_ofNat]

/-! ## RES and SET (R274 to R277) -/

/-- Settles O40: each form writes its register with its one bit cleared or raised. -/
theorem bitWritesToRegisters : Obligations.BitWritesToRegisters := by
  refine fun s => ⟨fun x hx => ?res, fun x hx => ?set⟩
  case res =>
    rw [← and_not_bitMask_eq]
    exact exec_of_forms (fun b : Nat × Reg8 => .resBitReg b.1 b.2) rfl s x hx
  case set =>
    rw [← or_bitMask_eq]
    exact exec_of_forms (fun b : Nat × Reg8 => .setBitReg b.1 b.2) rfl s x hx

/-- Settles O41: each form is a byte store at HL of the byte with its one bit written. -/
theorem bitWritesToMemory : Obligations.BitWritesToMemory := by
  refine fun s => ⟨fun x hx => runsStoringByte_storeByte ?res, fun x hx => runsStoringByte_storeByte ?set⟩
  case res =>
    rw [← and_not_bitMask_eq]
    exact exec_of_forms .resBitMem rfl s x hx
  case set =>
    rw [← or_bitMask_eq]
    exact exec_of_forms .setBitMem rfl s x hx

end Sys2Proof.Proofs
end

section
/-! The system family: NOP, and the gap and illegal bytes. The lemmas before the last theorem say what the unknown-opcode
handler does in each of the three cases of policy and count, in the statements' terms. -/

namespace Sys2Proof.Proofs

open Machine Claims

/-! ## NOP (R280) -/

/-- Settles O42: retiring one byte and one cycle is all that the form does. -/
theorem nopOnlyAdvances : Obligations.NopOnlyAdvances := exec_form .nop

/-! ## The unknown-opcode handler by policy and count (R106) -/

theorem unknown_of_strict {s : State} (hstrict : s.build.unknownPolicy = .strict) (t : Table) (byte : Byte) :
    s.unknown t byte = { s with
      diag := s.diag ++ [.unknownOpcode t byte s.pc], status := .fatal (.unknownOpcode t byte s.pc) } := by
  obtain ⟨-, hnext⟩ | ⟨hperm, -⟩ | ⟨hperm, -⟩ := unknown_cases s t byte
  · exact hnext
  · cases hperm.symm.trans hstrict
  · cases hperm.symm.trans hstrict

theorem unknown_of_permissive_past {s : State} (hperm : s.build.unknownPolicy = .permissive)
    (hcount : 100 ≤ s.unknownCount) (t : Table) (byte : Byte) :
    s.unknown t byte = { s with
      diag := s.diag ++ [.unknownOpcode t byte s.pc], unknownCount := s.unknownCount + 1,
      status := .fatal (.unknownBoundExceeded t byte s.pc) } := by
  obtain ⟨hstrict, -⟩ | ⟨-, -, hnext⟩ | ⟨-, hbelow, -⟩ := unknown_cases s t byte
  · cases hperm.symm.trans hstrict
  · exact hnext
  · exact absurd hcount (Nat.not_le.mpr hbelow)

theorem unknown_of_permissive_below {s : State} (hperm : s.build.unknownPolicy = .permissive)
    (hcount : s.unknownCount < 100) (t : Table) (byte : Byte) :
    s.unknown t byte = { s with
      diag := s.diag ++ [.unknownOpcode t byte s.pc], unknownCount := s.unknownCount + 1,
      pc := BitVec.ofNat 16 (s.pc.toNat + s.build.unknownPcAdvance.val) } := by
  obtain ⟨hstrict, -⟩ | ⟨-, hpast, -⟩ | ⟨-, -, hnext⟩ := unknown_cases s t byte
  · cases hperm.symm.trans hstrict
  · exact absurd hcount (Nat.not_lt.mpr (Nat.le_of_lt_succ hpast))
  · rw [← word_add_ofNat]
    exact hnext

/-! ## The gap and illegal bytes (R281 to R286) -/

/-- Each of them runs the handler for its own byte of the primary table. -/
theorem exec_unknownForms (s : State) : ∀ x ∈ unknownForms, exec x.1 s = .next (s.unknown .primary x.2) :=
  exec_of_forms .unknownPrimary rfl s

/-- Settles O43: each byte runs the handler, whose three cases are the statement's. -/
theorem gapAndIllegalBytesAreUnknown : Obligations.GapAndIllegalBytesAreUnknown := by
  intro s x hx
  rw [exec_unknownForms s x hx]
  refine ⟨fun hstrict => ?strict, fun hperm hcount => ?past, fun hperm hcount => ?below⟩
  case strict => rw [unknown_of_strict hstrict]
  case past => rw [unknown_of_permissive_past hperm hcount]
  case below => rw [unknown_of_permissive_below hperm hcount]

end Sys2Proof.Proofs
end

section
/-! The exceptions family: the fatal stop at an entry the build does not populate. The step there is the unknown-opcode
handler, and the lemmas of the system family say what that handler does under each policy. -/

namespace Sys2Proof.Proofs

open Machine Claims

/-- At an unpopulated entry a running core notes the byte and runs the unknown-opcode handler, under either policy
(R100, R106). -/
theorem step_of_not_populated {s : State} (hrun : s.status = .running)
    (hentry : populated s.build.populated (entryAt s) = false) :
    step s = .next (({ s with opcode := (entryAt s).2 }).unknown (entryAt s).1 (entryAt s).2) := by
  rw [step_eq_of_running hrun, if_neg (Bool.eq_false_iff.mp hentry)]

/-- Settles O48: the step is the handler on the state with the byte noted; noting a byte moves neither `pc` nor the build
nor the count, so the handler's strict case and its case past the bound are the two fatal states. -/
theorem fatalStopIsPrecise : Obligations.FatalStopIsPrecise := by
  intro s hrun hentry
  rw [step_of_not_populated hrun hentry]
  refine ⟨fun hstrict => ?strict, fun hperm hcount => ?past⟩
  case strict => rw [unknown_of_strict (s := { s with opcode := (entryAt s).2 }) hstrict]
  case past => rw [unknown_of_permissive_past (s := { s with opcode := (entryAt s).2 }) hperm hcount]

end Sys2Proof.Proofs
end

section
/-! The reset and hazards family: the host's run loop. The lemmas before the theorem say once what one turn of the loop
does: at a state that is not running, at a quit signal, and at a step. -/

namespace Sys2Proof.Proofs

open Machine Claims

/-! ## The turns of the run loop (R343) -/

/-- The loop is over once the status has left `running`, whatever the host would still answer. -/
theorem runLoop_of_not_running {s : State} (hstop : s.status ≠ .running) (quits : List Bool) :
    runLoop quits s = .next s := by
  cases quits with
  | nil => rfl
  | cons quit later =>
    unfold runLoop
    split
    case h_1 hrun => exact absurd hrun hstop
    case h_2 => rfl

/-- A quit signal is read before the step, so it ends the loop with only the status written. -/
theorem runLoop_of_quit {s : State} (hrun : s.status = .running) (later : List Bool) :
    runLoop (true :: later) s = .next { s with status := .quit } := by
  simp only [runLoop, hrun, if_true]

/-- Without a quit signal the loop goes on from the state the step answers. -/
theorem runLoop_of_step {s t : State} (hstep : step s = .next t) (later : List Bool) :
    runLoop (false :: later) s = runLoop later t := by
  obtain ⟨hrun, -⟩ := step_next_cases hstep
  simp [runLoop, hrun, hstep]

/-! ## The loop along all its turns -/

/-- The loop steps only running states, and their steps answer (R34), so the loop does. -/
theorem runLoop_answers (quits : List Bool) (s : State) : ∃ t, runLoop quits s = .next t := by
  induction quits generalizing s with
  | nil => exact ⟨s, rfl⟩
  | cons quit later ih =>
    by_cases hrun : s.status = .running
    case neg => exact ⟨s, runLoop_of_not_running hrun _⟩
    case pos =>
      cases quit with
      | true => exact ⟨_, runLoop_of_quit hrun later⟩
      | false =>
        obtain ⟨u, hstep⟩ := (onlyRunningStatesStep s).1 hrun
        rw [runLoop_of_step hstep]
        exact ih u

/-- No step quits, so a loop that reads no quit signal does not end in `quit` (R344). -/
theorem runLoop_status_ne_quit {quits : List Bool} {s t : State} (hs : s.status ≠ .quit) (hquits : true ∉ quits)
    (hloop : runLoop quits s = .next t) : t.status ≠ .quit := by
  induction quits generalizing s with
  | nil =>
    cases hloop
    exact hs
  | cons quit later ih =>
    obtain ⟨hfirst, hlater⟩ := not_or.mp (mt List.mem_cons.mpr hquits)
    by_cases hrun : s.status = .running
    case neg =>
      rw [runLoop_of_not_running hrun] at hloop
      cases hloop
      exact hs
    case pos =>
      cases quit with
      | true => exact absurd rfl hfirst
      | false =>
        obtain ⟨u, hstep⟩ := (onlyRunningStatesStep s).1 hrun
        obtain ⟨-, -, hu⟩ := stepsKeepTheBuildAndTheStream s u hstep
        rw [runLoop_of_step hstep] at hloop
        exact ih hu hlater hloop

/-- Settles O55: the loop along all its turns, and its turn at a quit signal and at a state that is not running. -/
theorem runLoopEndsWithoutFault : Obligations.RunLoopEndsWithoutFault :=
  fun quits s => ⟨runLoop_answers quits s, fun hs hquits _ hloop => runLoop_status_ne_quit hs hquits hloop,
    fun hrun => runLoop_of_quit hrun quits, fun hstop => runLoop_of_not_running hstop quits⟩

end Sys2Proof.Proofs
end
